-- ==== Sys2Proof/Word.lean ====
section
/-! DEFINITION. The two widths of the 6502: XLEN = 8 and ALEN = 16 (spec/00_scope.md R1). -/

namespace Sys2Proof

/-- A byte: registers A, X, Y, S, a memory cell, the packed status byte (R1, `XLEN`). -/
abbrev Byte := BitVec 8

/-- A word: the program counter and every address (R1, `ALEN`). -/
abbrev Word := BitVec 16

end Sys2Proof
end

