-- ==== Sys2Proof/Syntax.lean ====
section
/-! DEFINITION. The instructions: one constructor for each of the 151 rows of spec/opcode_table.json, named by the
mnemonic and its addressing mode (spec/30_encoding.md R51), with the operand the instruction's bytes carry (R50). -/

namespace Sys2Proof

/-- The instructions of the 6502. Suffixes name the modes: Imm Immediate, Zp Zero Page, ZpX Zero Page,X, ZpY Zero Page,Y,
Abs Absolute, AbsX Absolute,X, AbsY Absolute,Y, Ind Indirect, IndX (Indirect,X), IndY (Indirect),Y, Acc Accumulator; none
for Implied, for Relative (the branches) and for JSR, which is Absolute. -/
inductive Instr where
  -- Arithmetic and compare instructions (spec/40_arithmetic_compare.md)
  | adcImm (imm : Byte)
  | adcZp (zp : Byte)
  | adcZpX (zp : Byte)
  | adcAbs (addr : Word)
  | adcAbsX (addr : Word)
  | adcAbsY (addr : Word)
  | adcIndX (zp : Byte)
  | adcIndY (zp : Byte)
  | sbcImm (imm : Byte)
  | sbcZp (zp : Byte)
  | sbcZpX (zp : Byte)
  | sbcAbs (addr : Word)
  | sbcAbsX (addr : Word)
  | sbcAbsY (addr : Word)
  | sbcIndX (zp : Byte)
  | sbcIndY (zp : Byte)
  | cmpImm (imm : Byte)
  | cmpZp (zp : Byte)
  | cmpZpX (zp : Byte)
  | cmpAbs (addr : Word)
  | cmpAbsX (addr : Word)
  | cmpAbsY (addr : Word)
  | cmpIndX (zp : Byte)
  | cmpIndY (zp : Byte)
  | cpxImm (imm : Byte)
  | cpxZp (zp : Byte)
  | cpxAbs (addr : Word)
  | cpyImm (imm : Byte)
  | cpyZp (zp : Byte)
  | cpyAbs (addr : Word)
  -- Logical instructions (spec/41_logical.md)
  | andImm (imm : Byte)
  | andZp (zp : Byte)
  | andZpX (zp : Byte)
  | andAbs (addr : Word)
  | andAbsX (addr : Word)
  | andAbsY (addr : Word)
  | andIndX (zp : Byte)
  | andIndY (zp : Byte)
  | bitZp (zp : Byte)
  | bitAbs (addr : Word)
  | eorImm (imm : Byte)
  | eorZp (zp : Byte)
  | eorZpX (zp : Byte)
  | eorAbs (addr : Word)
  | eorAbsX (addr : Word)
  | eorAbsY (addr : Word)
  | eorIndX (zp : Byte)
  | eorIndY (zp : Byte)
  | oraImm (imm : Byte)
  | oraZp (zp : Byte)
  | oraZpX (zp : Byte)
  | oraAbs (addr : Word)
  | oraAbsX (addr : Word)
  | oraAbsY (addr : Word)
  | oraIndX (zp : Byte)
  | oraIndY (zp : Byte)
  -- Shift and rotate instructions (spec/42_shifts.md)
  | aslAcc
  | aslZp (zp : Byte)
  | aslZpX (zp : Byte)
  | aslAbs (addr : Word)
  | aslAbsX (addr : Word)
  | lsrAcc
  | lsrZp (zp : Byte)
  | lsrZpX (zp : Byte)
  | lsrAbs (addr : Word)
  | lsrAbsX (addr : Word)
  | rolAcc
  | rolZp (zp : Byte)
  | rolZpX (zp : Byte)
  | rolAbs (addr : Word)
  | rolAbsX (addr : Word)
  | rorAcc
  | rorZp (zp : Byte)
  | rorZpX (zp : Byte)
  | rorAbs (addr : Word)
  | rorAbsX (addr : Word)
  -- Conditional branches (spec/43_branches.md)
  | bcc (rel : Byte)
  | bcs (rel : Byte)
  | beq (rel : Byte)
  | bmi (rel : Byte)
  | bne (rel : Byte)
  | bpl (rel : Byte)
  | bvc (rel : Byte)
  | bvs (rel : Byte)
  -- System instructions (spec/44_system.md)
  | brk
  | nop
  | rti
  -- Flag instructions (spec/45_flags.md)
  | clc
  | cld
  | cli
  | clv
  | sec
  | sed
  | sei
  -- Increment and decrement instructions (spec/46_incdec.md)
  | decZp (zp : Byte)
  | decZpX (zp : Byte)
  | decAbs (addr : Word)
  | decAbsX (addr : Word)
  | dex
  | dey
  | incZp (zp : Byte)
  | incZpX (zp : Byte)
  | incAbs (addr : Word)
  | incAbsX (addr : Word)
  | inx
  | iny
  -- Jumps, calls and returns (spec/47_jumps.md)
  | jmpAbs (addr : Word)
  | jmpInd (addr : Word)
  | jsr (addr : Word)
  | rts
  -- Loads and stores (spec/48_load_store.md)
  | ldaImm (imm : Byte)
  | ldaZp (zp : Byte)
  | ldaZpX (zp : Byte)
  | ldaAbs (addr : Word)
  | ldaAbsX (addr : Word)
  | ldaAbsY (addr : Word)
  | ldaIndX (zp : Byte)
  | ldaIndY (zp : Byte)
  | ldxImm (imm : Byte)
  | ldxZp (zp : Byte)
  | ldxZpY (zp : Byte)
  | ldxAbs (addr : Word)
  | ldxAbsY (addr : Word)
  | ldyImm (imm : Byte)
  | ldyZp (zp : Byte)
  | ldyZpX (zp : Byte)
  | ldyAbs (addr : Word)
  | ldyAbsX (addr : Word)
  | staZp (zp : Byte)
  | staZpX (zp : Byte)
  | staAbs (addr : Word)
  | staAbsX (addr : Word)
  | staAbsY (addr : Word)
  | staIndX (zp : Byte)
  | staIndY (zp : Byte)
  | stxZp (zp : Byte)
  | stxZpY (zp : Byte)
  | stxAbs (addr : Word)
  | styZp (zp : Byte)
  | styZpX (zp : Byte)
  | styAbs (addr : Word)
  -- Stack and register-transfer instructions (spec/49_stack_transfer.md)
  | pha
  | php
  | pla
  | plp
  | tax
  | tay
  | tsx
  | txa
  | txs
  | tya
deriving DecidableEq, Repr

end Sys2Proof
end

