-- ==== Sys2Proof/Config.lean ====
section
/-! DEFINITION. What an implementation fixes (spec/00_scope.md R1): the types of the open parameters, the fixed
addresses, and the free values, which are opaque constants: nothing evaluates them and no proof can see their value. -/

namespace Sys2Proof.Config

/-- `B_MODEL` (R1, R17, R18, R23): is the Break flag a stored bit, or does it exist in pushed bytes only? -/
inductive BModel where
  | latch       -- the source's reading: B is a stored flag
  | pushedOnly  -- the silicon's: bit 4 exists only in a pushed status byte
deriving DecidableEq, Repr

/-- What `MEM_MAP` says of an address (spec/20_memory.md R38). -/
inductive RegionKind where
  | ram       -- a read returns the last value written (R31)
  | rom       -- reads return a fixed byte, writes change nothing
  | device    -- reads and writes have platform-defined effects: a read is a draw
  | unmapped  -- reads return a platform-defined value
deriving DecidableEq, Repr

/-- One region of the platform's memory map: the addresses `base` to `base + size - 1`. -/
structure Region where
  base : Nat
  size : Nat
  kind : RegionKind
deriving DecidableEq, Repr

/-- The open parameters of R1 that are plain data. `memMap` lists the regions that are not plain RAM; the first
region that holds an address decides, and an address in no region is RAM, R38's default. -/
structure Params where
  bModel   : BModel
  brkSetsI : Bool
  memMap   : List Region
deriving DecidableEq, Repr

/-- What `DECIMAL_ADC` and `DECIMAL_SBC` give: the new A and the flags C, Z, V, N (spec/40_arithmetic_compare.md R105). -/
structure DecimalResult where
  a : Byte
  c : Bool
  z : Bool
  v : Bool
  n : Bool
deriving DecidableEq, Repr, Inhabited

/-- `DECIMAL_ADC(A, M, C)`, ADC's result with D = 1 (R105). FREE VALUE: the spec "assumes nothing except that they
depend on A, M and C alone". Log 5. -/
opaque decimalAdc (a m : Byte) (c : Bool) : DecimalResult

/-- `DECIMAL_SBC(A, M, C)`, SBC's result with D = 1 (R105). FREE VALUE. Log 5. -/
opaque decimalSbc (a m : Byte) (c : Bool) : DecimalResult

/-- What a read of memory is for. Within one instruction no two reads have the same use and the same address, so
that the draws of `openByte` are independent of one another. -/
inductive Access where
  | fetch    -- opcode and operand bytes (R50)
  | pointer  -- the two bytes of an indirect address (R63, R64, R65)
  | operand  -- the byte `M` (R53)
  | stack    -- a pull (R34)
  | vector   -- the two bytes of a vector (R204)
deriving DecidableEq, Repr

/-- The byte that a read of a device register or of an unmapped address returns (R38). FREE VALUE: any byte, afresh
for each step number, use and address. Log 6 and log 11. -/
opaque openByte (draw : Nat) (use : Access) (addr : Word) : Byte

/-- The registers that a reset leaves unspecified (spec/10_state.md R28). -/
inductive ResetReg where
  | a | x | y | s
deriving DecidableEq, Repr

/-- The flags that a reset leaves unspecified (R28): all but I. -/
inductive ResetFlag where
  | c | z | d | b | v | n
deriving DecidableEq, Repr

/-- A register after a reset at a boundary of a running machine (spec/70_reset_and_hazards.md R230: unspecified).
FREE VALUE. Log 9. -/
opaque resetByte (draw : Nat) (r : ResetReg) : Byte

/-- A flag after a reset at a boundary of a running machine (R230: unspecified). FREE VALUE. Log 9. -/
opaque resetFlag (draw : Nat) (f : ResetFlag) : Bool

/-- `STACK_PAGE` (R1, R34). -/
def stackPage : Byte := 0x01

/-- `BRK_RETURN_OFFSET` (R1, spec/44_system.md R140). -/
def brkReturnOffset : Word := 2

/-- `RESET_VECTOR_ADDR` (R1, R230). -/
def resetVector : Word := 0xFFFC

/-- The IRQ and BRK vector (spec/60_exceptions.md R204). -/
def irqVector : Word := 0xFFFE

end Sys2Proof.Config
end

