-- ==== Sys2Proof/WellFormed.lean ====
section
/-! DEFINITION. Well-formedness. An instruction has none to check: "all 8 bits of every operand byte are significant"
(spec/30_encoding.md R68), and the operands of `Instr` are exactly a byte or a word wide, so every term of `Instr` is an
instruction of the 6502. What can be ill-formed is the platform's memory map. -/

namespace Sys2Proof

/-- A region of the memory map holds an address and lies in $0000 to $FFFF (spec/20_memory.md R30, R38). -/
def Config.Region.wf (r : Config.Region) : Bool :=
  decide (0 < r.size) && decide (r.base + r.size ≤ 65536)

/-- Every region of the memory map is one. -/
def Config.Params.wf (p : Config.Params) : Bool :=
  p.memMap.all Config.Region.wf

end Sys2Proof
end

