-- ==== Sys2Proof/Decode.lean ====
section
/-! DEFINITION. The decoder, total on any bytes, from the opcode map of spec/30_encoding.md R51, and the encoder, from the
mnemonic and mode table of the same rule; the byte order of an operand word (spec/20_memory.md R32). -/

namespace Sys2Proof

/-- `hi : lo`, the word of two bytes (spec/00_scope.md section 7.1). -/
def wordOf (hi lo : Byte) : Word := hi ++ lo

/-- `w[15:8]`. -/
def hiByte (w : Word) : Byte := w.extractLsb' 8 8

/-- `w[7:0]`. -/
def loByte (w : Word) : Byte := w.extractLsb' 0 8

/-- What an opcode byte says of the operand bytes that follow it (R50), with the instruction they make. -/
inductive Form where
  | implied (i : Instr)         -- no operand byte
  | byte (f : Byte → Instr)     -- one operand byte
  | word (f : Word → Instr)     -- two operand bytes, the low one first

/-- The length in bytes, opcode included (R50): the opcode byte alone tells it (R52). -/
def Form.length : Form → Nat
  | .implied _ => 1
  | .byte _ => 2
  | .word _ => 3

/-- The instruction, from the two bytes after the opcode; those the form does not have are not looked at. -/
def Form.build : Form → Byte → Byte → Instr
  | .implied i, _, _ => i
  | .byte f, b1, _ => f b1
  | .word f, b1, b2 => f (wordOf b2 b1)

/-- The rows of R51's opcode map: the defined opcode bytes with the given high nibble. -/
def opcodeRow : Nat → List (Byte × Form)
  | 0 =>
    [ (0x00, .implied .brk), (0x01, .byte .oraIndX), (0x05, .byte .oraZp),
      (0x06, .byte .aslZp), (0x08, .implied .php), (0x09, .byte .oraImm),
      (0x0A, .implied .aslAcc), (0x0D, .word .oraAbs), (0x0E, .word .aslAbs) ]
  | 1 =>
    [ (0x10, .byte .bpl), (0x11, .byte .oraIndY), (0x15, .byte .oraZpX),
      (0x16, .byte .aslZpX), (0x18, .implied .clc), (0x19, .word .oraAbsY),
      (0x1D, .word .oraAbsX), (0x1E, .word .aslAbsX) ]
  | 2 =>
    [ (0x20, .word .jsr), (0x21, .byte .andIndX), (0x24, .byte .bitZp),
      (0x25, .byte .andZp), (0x26, .byte .rolZp), (0x28, .implied .plp),
      (0x29, .byte .andImm), (0x2A, .implied .rolAcc), (0x2C, .word .bitAbs),
      (0x2D, .word .andAbs), (0x2E, .word .rolAbs) ]
  | 3 =>
    [ (0x30, .byte .bmi), (0x31, .byte .andIndY), (0x35, .byte .andZpX),
      (0x36, .byte .rolZpX), (0x38, .implied .sec), (0x39, .word .andAbsY),
      (0x3D, .word .andAbsX), (0x3E, .word .rolAbsX) ]
  | 4 =>
    [ (0x40, .implied .rti), (0x41, .byte .eorIndX), (0x45, .byte .eorZp),
      (0x46, .byte .lsrZp), (0x48, .implied .pha), (0x49, .byte .eorImm),
      (0x4A, .implied .lsrAcc), (0x4C, .word .jmpAbs), (0x4D, .word .eorAbs),
      (0x4E, .word .lsrAbs) ]
  | 5 =>
    [ (0x50, .byte .bvc), (0x51, .byte .eorIndY), (0x55, .byte .eorZpX),
      (0x56, .byte .lsrZpX), (0x58, .implied .cli), (0x59, .word .eorAbsY),
      (0x5D, .word .eorAbsX), (0x5E, .word .lsrAbsX) ]
  | 6 =>
    [ (0x60, .implied .rts), (0x61, .byte .adcIndX), (0x65, .byte .adcZp),
      (0x66, .byte .rorZp), (0x68, .implied .pla), (0x69, .byte .adcImm),
      (0x6A, .implied .rorAcc), (0x6C, .word .jmpInd), (0x6D, .word .adcAbs),
      (0x6E, .word .rorAbs) ]
  | 7 =>
    [ (0x70, .byte .bvs), (0x71, .byte .adcIndY), (0x75, .byte .adcZpX),
      (0x76, .byte .rorZpX), (0x78, .implied .sei), (0x79, .word .adcAbsY),
      (0x7D, .word .adcAbsX), (0x7E, .word .rorAbsX) ]
  | 8 =>
    [ (0x81, .byte .staIndX), (0x84, .byte .styZp), (0x85, .byte .staZp),
      (0x86, .byte .stxZp), (0x88, .implied .dey), (0x8A, .implied .txa),
      (0x8C, .word .styAbs), (0x8D, .word .staAbs), (0x8E, .word .stxAbs) ]
  | 9 =>
    [ (0x90, .byte .bcc), (0x91, .byte .staIndY), (0x94, .byte .styZpX),
      (0x95, .byte .staZpX), (0x96, .byte .stxZpY), (0x98, .implied .tya),
      (0x99, .word .staAbsY), (0x9A, .implied .txs), (0x9D, .word .staAbsX) ]
  | 10 =>
    [ (0xA0, .byte .ldyImm), (0xA1, .byte .ldaIndX), (0xA2, .byte .ldxImm),
      (0xA4, .byte .ldyZp), (0xA5, .byte .ldaZp), (0xA6, .byte .ldxZp),
      (0xA8, .implied .tay), (0xA9, .byte .ldaImm), (0xAA, .implied .tax),
      (0xAC, .word .ldyAbs), (0xAD, .word .ldaAbs), (0xAE, .word .ldxAbs) ]
  | 11 =>
    [ (0xB0, .byte .bcs), (0xB1, .byte .ldaIndY), (0xB4, .byte .ldyZpX),
      (0xB5, .byte .ldaZpX), (0xB6, .byte .ldxZpY), (0xB8, .implied .clv),
      (0xB9, .word .ldaAbsY), (0xBA, .implied .tsx), (0xBC, .word .ldyAbsX),
      (0xBD, .word .ldaAbsX), (0xBE, .word .ldxAbsY) ]
  | 12 =>
    [ (0xC0, .byte .cpyImm), (0xC1, .byte .cmpIndX), (0xC4, .byte .cpyZp),
      (0xC5, .byte .cmpZp), (0xC6, .byte .decZp), (0xC8, .implied .iny),
      (0xC9, .byte .cmpImm), (0xCA, .implied .dex), (0xCC, .word .cpyAbs),
      (0xCD, .word .cmpAbs), (0xCE, .word .decAbs) ]
  | 13 =>
    [ (0xD0, .byte .bne), (0xD1, .byte .cmpIndY), (0xD5, .byte .cmpZpX),
      (0xD6, .byte .decZpX), (0xD8, .implied .cld), (0xD9, .word .cmpAbsY),
      (0xDD, .word .cmpAbsX), (0xDE, .word .decAbsX) ]
  | 14 =>
    [ (0xE0, .byte .cpxImm), (0xE1, .byte .sbcIndX), (0xE4, .byte .cpxZp),
      (0xE5, .byte .sbcZp), (0xE6, .byte .incZp), (0xE8, .implied .inx),
      (0xE9, .byte .sbcImm), (0xEA, .implied .nop), (0xEC, .word .cpxAbs),
      (0xED, .word .sbcAbs), (0xEE, .word .incAbs) ]
  | 15 =>
    [ (0xF0, .byte .beq), (0xF1, .byte .sbcIndY), (0xF5, .byte .sbcZpX),
      (0xF6, .byte .incZpX), (0xF8, .implied .sed), (0xF9, .word .sbcAbsY),
      (0xFD, .word .sbcAbsX), (0xFE, .word .incAbsX) ]
  | _ => []

/-- The form of an opcode byte: nothing for the 105 that the spec does not define (R67). -/
def lookup (op : Byte) : Option Form :=
  ((opcodeRow (op.toNat / 16)).find? (fun e => e.1 == op)).map (·.2)

/-- The instruction that an opcode byte and the two bytes after it are (R52). -/
def decodeBytes (b0 b1 b2 : Byte) : Option Instr :=
  (lookup b0).map (fun f => f.build b1 b2)

/-- Why a list of bytes does not begin with an instruction. -/
inductive DecodeError where
  | noBytes                          -- the list is empty
  | undefinedOpcode (opcode : Byte)  -- one of the 105 bytes of R67
  | truncated (opcode : Byte)        -- the list ends inside the instruction
deriving DecidableEq, Repr

/-- The instruction that a list of bytes begins with, and the bytes after it (R52). -/
def decode : List Byte → Except DecodeError (Instr × List Byte)
  | [] => .error .noBytes
  | op :: rest =>
    match lookup op with
    | none => .error (.undefinedOpcode op)
    | some (.implied i) => .ok (i, rest)
    | some (.byte f) =>
      match rest with
      | b1 :: rest => .ok (f b1, rest)
      | [] => .error (.truncated op)
    | some (.word f) =>
      match rest with
      | b1 :: b2 :: rest => .ok (f (wordOf b2 b1), rest)
      | _ => .error (.truncated op)

/-- Byte `k` of an instruction whose bits are `w`, of which the table gives `nbits`: bit 0 is the least significant bit
of the first byte. The bits from `nbits` on are zero. -/
def tableByte (nbits w k : Nat) : Byte := BitVec.ofNat 8 ((w % 2 ^ nbits) >>> (8 * k))

/-- The instruction that the decoder reads from an instruction whose bits are `w`. -/
def decodeTableWord (nbits w : Nat) : Option Instr :=
  match decode [tableByte nbits w 0, tableByte nbits w 1, tableByte nbits w 2] with
  | .ok (i, _) => some i
  | .error _ => none

/-- The bytes of an instruction, the opcode first, an operand word low byte first (R50, R51's table by mnemonic and mode). -/
def encode : Instr → List Byte
  | .adcImm imm => [0x69, imm]
  | .adcZp zp => [0x65, zp]
  | .adcZpX zp => [0x75, zp]
  | .adcAbs addr => [0x6D, loByte addr, hiByte addr]
  | .adcAbsX addr => [0x7D, loByte addr, hiByte addr]
  | .adcAbsY addr => [0x79, loByte addr, hiByte addr]
  | .adcIndX zp => [0x61, zp]
  | .adcIndY zp => [0x71, zp]
  | .sbcImm imm => [0xE9, imm]
  | .sbcZp zp => [0xE5, zp]
  | .sbcZpX zp => [0xF5, zp]
  | .sbcAbs addr => [0xED, loByte addr, hiByte addr]
  | .sbcAbsX addr => [0xFD, loByte addr, hiByte addr]
  | .sbcAbsY addr => [0xF9, loByte addr, hiByte addr]
  | .sbcIndX zp => [0xE1, zp]
  | .sbcIndY zp => [0xF1, zp]
  | .cmpImm imm => [0xC9, imm]
  | .cmpZp zp => [0xC5, zp]
  | .cmpZpX zp => [0xD5, zp]
  | .cmpAbs addr => [0xCD, loByte addr, hiByte addr]
  | .cmpAbsX addr => [0xDD, loByte addr, hiByte addr]
  | .cmpAbsY addr => [0xD9, loByte addr, hiByte addr]
  | .cmpIndX zp => [0xC1, zp]
  | .cmpIndY zp => [0xD1, zp]
  | .cpxImm imm => [0xE0, imm]
  | .cpxZp zp => [0xE4, zp]
  | .cpxAbs addr => [0xEC, loByte addr, hiByte addr]
  | .cpyImm imm => [0xC0, imm]
  | .cpyZp zp => [0xC4, zp]
  | .cpyAbs addr => [0xCC, loByte addr, hiByte addr]
  | .andImm imm => [0x29, imm]
  | .andZp zp => [0x25, zp]
  | .andZpX zp => [0x35, zp]
  | .andAbs addr => [0x2D, loByte addr, hiByte addr]
  | .andAbsX addr => [0x3D, loByte addr, hiByte addr]
  | .andAbsY addr => [0x39, loByte addr, hiByte addr]
  | .andIndX zp => [0x21, zp]
  | .andIndY zp => [0x31, zp]
  | .bitZp zp => [0x24, zp]
  | .bitAbs addr => [0x2C, loByte addr, hiByte addr]
  | .eorImm imm => [0x49, imm]
  | .eorZp zp => [0x45, zp]
  | .eorZpX zp => [0x55, zp]
  | .eorAbs addr => [0x4D, loByte addr, hiByte addr]
  | .eorAbsX addr => [0x5D, loByte addr, hiByte addr]
  | .eorAbsY addr => [0x59, loByte addr, hiByte addr]
  | .eorIndX zp => [0x41, zp]
  | .eorIndY zp => [0x51, zp]
  | .oraImm imm => [0x09, imm]
  | .oraZp zp => [0x05, zp]
  | .oraZpX zp => [0x15, zp]
  | .oraAbs addr => [0x0D, loByte addr, hiByte addr]
  | .oraAbsX addr => [0x1D, loByte addr, hiByte addr]
  | .oraAbsY addr => [0x19, loByte addr, hiByte addr]
  | .oraIndX zp => [0x01, zp]
  | .oraIndY zp => [0x11, zp]
  | .aslAcc => [0x0A]
  | .aslZp zp => [0x06, zp]
  | .aslZpX zp => [0x16, zp]
  | .aslAbs addr => [0x0E, loByte addr, hiByte addr]
  | .aslAbsX addr => [0x1E, loByte addr, hiByte addr]
  | .lsrAcc => [0x4A]
  | .lsrZp zp => [0x46, zp]
  | .lsrZpX zp => [0x56, zp]
  | .lsrAbs addr => [0x4E, loByte addr, hiByte addr]
  | .lsrAbsX addr => [0x5E, loByte addr, hiByte addr]
  | .rolAcc => [0x2A]
  | .rolZp zp => [0x26, zp]
  | .rolZpX zp => [0x36, zp]
  | .rolAbs addr => [0x2E, loByte addr, hiByte addr]
  | .rolAbsX addr => [0x3E, loByte addr, hiByte addr]
  | .rorAcc => [0x6A]
  | .rorZp zp => [0x66, zp]
  | .rorZpX zp => [0x76, zp]
  | .rorAbs addr => [0x6E, loByte addr, hiByte addr]
  | .rorAbsX addr => [0x7E, loByte addr, hiByte addr]
  | .bcc rel => [0x90, rel]
  | .bcs rel => [0xB0, rel]
  | .beq rel => [0xF0, rel]
  | .bmi rel => [0x30, rel]
  | .bne rel => [0xD0, rel]
  | .bpl rel => [0x10, rel]
  | .bvc rel => [0x50, rel]
  | .bvs rel => [0x70, rel]
  | .brk => [0x00]
  | .nop => [0xEA]
  | .rti => [0x40]
  | .clc => [0x18]
  | .cld => [0xD8]
  | .cli => [0x58]
  | .clv => [0xB8]
  | .sec => [0x38]
  | .sed => [0xF8]
  | .sei => [0x78]
  | .decZp zp => [0xC6, zp]
  | .decZpX zp => [0xD6, zp]
  | .decAbs addr => [0xCE, loByte addr, hiByte addr]
  | .decAbsX addr => [0xDE, loByte addr, hiByte addr]
  | .dex => [0xCA]
  | .dey => [0x88]
  | .incZp zp => [0xE6, zp]
  | .incZpX zp => [0xF6, zp]
  | .incAbs addr => [0xEE, loByte addr, hiByte addr]
  | .incAbsX addr => [0xFE, loByte addr, hiByte addr]
  | .inx => [0xE8]
  | .iny => [0xC8]
  | .jmpAbs addr => [0x4C, loByte addr, hiByte addr]
  | .jmpInd addr => [0x6C, loByte addr, hiByte addr]
  | .jsr addr => [0x20, loByte addr, hiByte addr]
  | .rts => [0x60]
  | .ldaImm imm => [0xA9, imm]
  | .ldaZp zp => [0xA5, zp]
  | .ldaZpX zp => [0xB5, zp]
  | .ldaAbs addr => [0xAD, loByte addr, hiByte addr]
  | .ldaAbsX addr => [0xBD, loByte addr, hiByte addr]
  | .ldaAbsY addr => [0xB9, loByte addr, hiByte addr]
  | .ldaIndX zp => [0xA1, zp]
  | .ldaIndY zp => [0xB1, zp]
  | .ldxImm imm => [0xA2, imm]
  | .ldxZp zp => [0xA6, zp]
  | .ldxZpY zp => [0xB6, zp]
  | .ldxAbs addr => [0xAE, loByte addr, hiByte addr]
  | .ldxAbsY addr => [0xBE, loByte addr, hiByte addr]
  | .ldyImm imm => [0xA0, imm]
  | .ldyZp zp => [0xA4, zp]
  | .ldyZpX zp => [0xB4, zp]
  | .ldyAbs addr => [0xAC, loByte addr, hiByte addr]
  | .ldyAbsX addr => [0xBC, loByte addr, hiByte addr]
  | .staZp zp => [0x85, zp]
  | .staZpX zp => [0x95, zp]
  | .staAbs addr => [0x8D, loByte addr, hiByte addr]
  | .staAbsX addr => [0x9D, loByte addr, hiByte addr]
  | .staAbsY addr => [0x99, loByte addr, hiByte addr]
  | .staIndX zp => [0x81, zp]
  | .staIndY zp => [0x91, zp]
  | .stxZp zp => [0x86, zp]
  | .stxZpY zp => [0x96, zp]
  | .stxAbs addr => [0x8E, loByte addr, hiByte addr]
  | .styZp zp => [0x84, zp]
  | .styZpX zp => [0x94, zp]
  | .styAbs addr => [0x8C, loByte addr, hiByte addr]
  | .pha => [0x48]
  | .php => [0x08]
  | .pla => [0x68]
  | .plp => [0x28]
  | .tax => [0xAA]
  | .tay => [0xA8]
  | .tsx => [0xBA]
  | .txa => [0x8A]
  | .txs => [0x9A]
  | .tya => [0x98]

end Sys2Proof
end

