-- ==== Sys2Proof/Machine/Memory.lean ====
section
/-! DEFINITION. The contents of the 64 KiB memory (spec/20_memory.md R30, R31) as a list of (address, byte) pairs in
one canonical form: addresses strictly rising, none above $FFFF, no entry equal to what an unlisted address reads as. -/

namespace Sys2Proof.Machine

/-- The contents of memory: the cells that differ from `unlistedByte`. -/
abbrev Mem := List Host.Cell

/-- What an address that the list does not hold reads as. DESIGN CHOICE, unsafe (log 1): the spec leaves the contents
at power-up unspecified (spec/10_state.md R28). -/
def unlistedByte : Byte := 0x00

/-- The byte at an address. -/
def Mem.get : Mem → Nat → Byte
  | [], _ => unlistedByte
  | (k, w) :: m, a => if a = k then w else Mem.get m a

/-- Put a byte in front of the rest of the list, leaving it out where it is what an unlisted address reads as. -/
def Mem.cons (a : Nat) (v : Byte) (m : Mem) : Mem :=
  if v = unlistedByte then m else (a, v) :: m

/-- Replace the byte at an address and change no other byte (R31), keeping the canonical form. -/
def Mem.set : Mem → Nat → Byte → Mem
  | [], a, v => Mem.cons a v []
  | (k, w) :: m, a, v =>
    if a = k then Mem.cons a v m
    else if a < k then Mem.cons a v ((k, w) :: m)
    else (k, w) :: Mem.set m a v

/-- Every address of the list is at least `lo`, they rise strictly and stay below 65536, and no entry is one that an
unlisted address would read as. -/
def Mem.wfFrom : Nat → Mem → Bool
  | _, [] => true
  | lo, (k, w) :: m => decide (lo ≤ k) && decide (k < 65536) && decide (w ≠ unlistedByte) && Mem.wfFrom (k + 1) m

/-- The canonical form. -/
def Mem.wf (m : Mem) : Bool := Mem.wfFrom 0 m

end Sys2Proof.Machine
end

