-- ==== Sys2Proof/Machine/ResetValues.lean ====
section
/-! DEFINITION. The values of the state after power-up (spec/10_state.md R28, spec/70_reset_and_hazards.md R230). The spec gives
I = 1 and the pc; the others are DESIGN CHOICE, unsafe (log 2), and the parameters hold the values that R1 calls the
source's (log 4). -/

namespace Sys2Proof.Machine

/-- A, X and Y after power-up. DESIGN CHOICE (log 2): R28 says "unspecified". -/
def resetIndex : Byte := 0x00

/-- S after power-up. DESIGN CHOICE (log 2): R28, "three below an undefined starting value", taken as $00. -/
def resetStack : Byte := 0xFD

/-- C, Z, D, B, V and N after power-up. DESIGN CHOICE (log 2): R28 says "unspecified", of D "uncertain". -/
def resetFlagValue : Bool := false

/-- The memory after power-up: nothing listed (log 1). -/
def resetMem : Mem := []

/-- `pc` after power-up: `MemRead16($FFFC)`, the low byte first (R230, R32). Log 3. -/
def resetPc : Word :=
  resetMem.get (Config.resetVector.toNat + 1) ++ resetMem.get Config.resetVector.toNat

/-- The open parameters of the machine after power-up: the source's values of R1 and R38's default map.
DESIGN CHOICE (log 4, log 6). -/
def resetParams : Config.Params := { bModel := .latch, brkSetsI := false, memMap := [] }

end Sys2Proof.Machine
end

