-- ==== Sys2Proof/Machine/State.lean ====
section
/-! DEFINITION. The state of the 6502 (spec/10_state.md), the reasons a step can stop, and the machine after power-up. -/

namespace Sys2Proof.Machine

/-- The processor status: seven one-bit flags (R15). -/
structure Flags where
  /-- C, the Carry Flag (R19). -/
  c : Bool
  /-- Z, the Zero Flag (R20). -/
  z : Bool
  /-- I, Interrupt Disable (R21). -/
  i : Bool
  /-- D, the Decimal Mode Flag (R22). -/
  d : Bool
  /-- B, the Break Command flag (R23): stored only under `B_MODEL = latch`; under `pushed_only` nothing writes or reads
  it (log 15). -/
  b : Bool
  /-- V, the Overflow Flag (R24). -/
  v : Bool
  /-- N, the Negative Flag (R25). -/
  n : Bool
deriving DecidableEq, Repr

/-- What the environment does at one instruction boundary (spec/60_exceptions.md R202, R213). -/
structure BoundaryInput where
  /-- The reset input is released at this boundary (R200, R230). -/
  reset : Bool
  /-- `IRQ_LINE` is asserted at this boundary: a level, not latched (R202). -/
  irq : Bool
  /-- Where R202 admits both the old and the new I as the mask, the old one is it. Log 8. -/
  maskOld : Bool
deriving DecidableEq, Repr

/-- A boundary at which the environment does nothing. -/
def BoundaryInput.quiet : BoundaryInput := { reset := false, irq := false, maskOld := false }

/-- Everything the spec gives the machine. -/
structure State where
  /-- A, the accumulator (R10). -/
  a : Byte
  /-- X, the X register (R11). -/
  x : Byte
  /-- Y, the Y register (R12). -/
  y : Byte
  /-- S, the stack pointer (R13). -/
  sp : Byte
  /-- The program counter (R14). -/
  pc : Word
  /-- The processor status (R15). -/
  flags : Flags
  /-- The contents of memory (spec/20_memory.md R30, R31). -/
  mem : Mem
  /-- The model's own: the I flag of before the CLI, SEI or PLP that has just completed, if one has (R202, "Which I is
  the mask"). Log 8. -/
  prevI : Option Bool
  /-- What the environment does at the coming boundaries, the next one first; past the list's end it does nothing.
  `IRQ_LINE` (R29, R202) and the reset input (R200). Log 7. -/
  inputs : List BoundaryInput
  /-- The model's own: the number of this step, the index of its free values. Log 11. -/
  draws : Nat
  /-- The open parameters of R1 (log 4). No step changes them. -/
  params : Config.Params
deriving DecidableEq, Repr

/-- Why the machine could stop with a fault: it never does. "No behaviour of this hardware is treated as `fault` or
`stuck`: the hardware has no trap other than BRK and no access it can refuse" (spec/93_implementation_defined.md;
spec/60_exceptions.md R201), so the type has no constructor. -/
inductive Fault where
deriving DecidableEq, Repr

/-- Why the model could decline to give a meaning. -/
inductive Refusal where
  /-- An instruction of the table without a meaning yet. Raised by no arm of `exec`: every one has its meaning. Safe. -/
  | notModelled (mnemonic : String)
  /-- `Refused(undefined_opcode(byte0))` (spec/30_encoding.md R67, R211). Raised by `step` when the byte at the program
  counter is one of the 105 that the spec does not define. Safe: the silicon does something there. -/
  | undefinedOpcode (opcode : Byte)
deriving DecidableEq, Repr

/-- What an instruction's meaning answers. -/
abbrev Result := Host.Outcome State Fault Refusal

/-- The machine after power-up (R28, R230): I = 1 and the pc from the reset vector; the rest by log 1 to log 4. -/
def State.reset : State where
  a := resetIndex
  x := resetIndex
  y := resetIndex
  sp := resetStack
  pc := resetPc
  flags :=
    { c := resetFlagValue, z := resetFlagValue, i := true, d := resetFlagValue, b := resetFlagValue,
      v := resetFlagValue, n := resetFlagValue }
  mem := resetMem
  prevI := none
  inputs := []
  draws := 0
  params := resetParams

end Sys2Proof.Machine
end

