-- ==== Sys2Proof/Machine/Flags.lean ====
section
/-! DEFINITION. Every computation of flags and of 8-bit results: `SetNZ`, `AddBinary`, the compares, the shifts, and
the packed status byte (spec/10_state.md R16 to R26, spec/40_arithmetic_compare.md R106, spec/42_shifts.md). -/

namespace Sys2Proof.Machine

/-- `SetNZ(v)` (R26): Z is 1 when `v` is zero, N is bit 7 of `v`; no other flag. -/
def Flags.setNZ (f : Flags) (v : Byte) : Flags :=
  { f with z := decide (v = 0), n := v.getLsbD 7 }

/-- The result, the carry and the overflow of an addition. -/
structure AddResult where
  r : Byte
  c : Bool
  v : Bool
deriving DecidableEq, Repr

/-- `AddBinary(a, m, c)` (R106). -/
def addBinary (a m : Byte) (c : Bool) : AddResult :=
  let t := a.toNat + m.toNat + c.toNat
  let r := BitVec.ofNat 8 t
  { r := r
    c := decide (256 ≤ t)
    v := decide (a.getLsbD 7 = m.getLsbD 7) && decide (r.getLsbD 7 ≠ a.getLsbD 7) }

/-- The flags of a compare of a register with `M` (R102, R103, R104): C from the unsigned comparison (log 22), Z from
equality, N from bit 7 of the difference. -/
def Flags.compare (f : Flags) (reg m : Byte) : Flags :=
  { f with c := decide (m.toNat ≤ reg.toNat), z := decide (reg = m), n := (reg - m).getLsbD 7 }

/-- The result and the new carry of a shift by one bit. -/
structure ShiftResult where
  r : Byte
  c : Bool
deriving DecidableEq, Repr

/-- ASL's function (R120): `v[6:0] : 0`, carry `v[7]`. -/
def shiftAsl (v : Byte) (_c : Bool) : ShiftResult :=
  { r := v <<< 1, c := v.getLsbD 7 }

/-- LSR's function (R121): `0 : v[7:1]`, carry `v[0]`. -/
def shiftLsr (v : Byte) (_c : Bool) : ShiftResult :=
  { r := v >>> 1, c := v.getLsbD 0 }

/-- ROL's function (R122): `v[6:0] : c`, carry `v[7]`. -/
def shiftRol (v : Byte) (c : Bool) : ShiftResult :=
  { r := (v <<< 1) ||| BitVec.ofNat 8 c.toNat, c := v.getLsbD 7 }

/-- ROR's function (R123): `c : v[7:1]`, carry `v[0]`. -/
def shiftRor (v : Byte) (c : Bool) : ShiftResult :=
  { r := BitVec.ofNat 8 (c.toNat * 128) ||| (v >>> 1), c := v.getLsbD 0 }

/-- `PackP()` with bit 4 given (R16, R17): `N : V : 1 : b4 : D : I : Z : C`. Log 17. -/
def packP (f : Flags) (b4 : Bool) : Byte :=
  BitVec.ofNat 8 (128 * f.n.toNat + 64 * f.v.toNat + 32 + 16 * b4.toNat + 8 * f.d.toNat + 4 * f.i.toNat
    + 2 * f.z.toNat + f.c.toNat)

/-- Bit 4 of the byte that PHP pushes (R17, R191): the stored B under `latch`, 1 under `pushed_only`. -/
def phpBit4 (m : Config.BModel) (f : Flags) : Bool :=
  match m with
  | .latch => f.b
  | .pushedOnly => true

/-- `UnpackP(v)` (R18): bit 4 loads B only under `latch`; bit 5 is ignored. -/
def unpackP (m : Config.BModel) (f : Flags) (v : Byte) : Flags :=
  { c := v.getLsbD 0
    z := v.getLsbD 1
    i := v.getLsbD 2
    d := v.getLsbD 3
    b := match m with
         | .latch => v.getLsbD 4
         | .pushedOnly => f.b
    v := v.getLsbD 6
    n := v.getLsbD 7 }

end Sys2Proof.Machine
end

