-- ==== Sys2Proof/Machine/Ops.lean ====
section
/-! DEFINITION. The named operations over memory and registers: one byte read or written (spec/20_memory.md R31, R38), the
stack (R34), the next instruction's address (spec/30_encoding.md R66), interrupt entry and the return from one
(spec/60_exceptions.md R203, spec/44_system.md R142). -/

namespace Sys2Proof.Machine

open Sys2Proof.Config

/-- What the memory map says of an address: the first region that holds it, else RAM (R38). -/
def regionKind : List Region → Nat → RegionKind
  | [], _ => .ram
  | r :: rs, a => if r.base ≤ a ∧ a < r.base + r.size then r.kind else regionKind rs a

/-- What the platform has at an address. -/
def State.kindAt (s : State) (a : Word) : RegionKind := regionKind s.params.memMap a.toNat

/-- `MemRead(a, 1)` (R31): the byte stored there; of a device or an unmapped address a free value (R38). -/
def State.read (s : State) (use : Access) (a : Word) : Byte :=
  match s.kindAt a with
  | .ram => s.mem.get a.toNat
  | .rom => s.mem.get a.toNat
  | .device => openByte s.draws use a
  | .unmapped => openByte s.draws use a

/-- `MemRead16(a)` (R32): little-endian, the second byte at `a + 1` modulo 65536. -/
def State.readWord (s : State) (use : Access) (a : Word) : Word :=
  wordOf (s.read use (a + 1)) (s.read use a)

/-- `Operand`, the byte `M` at an effective address (R53). -/
def State.operand (s : State) (a : Word) : Byte := s.read .operand a

/-- `MemWrite(a, 1, v)` (R31): RAM takes the byte; a write elsewhere changes nothing of the core's (R38, log 6). -/
def State.write (s : State) (a : Word) (v : Byte) : State :=
  { s with mem := match s.kindAt a with
                  | .ram => s.mem.set a.toNat v
                  | .rom => s.mem
                  | .device => s.mem
                  | .unmapped => s.mem }

/-- `pc <- next`, for an instruction of `n` bytes (R66); the sum wraps (R14). -/
def State.advance (s : State) (n : Nat) : State := { s with pc := s.pc + BitVec.ofNat 16 n }

/-- A new value for A, with Z and N from it: the common end of the loads, the logical instructions, the pulls and the
transfers into A (R26). -/
def State.putA (s : State) (r : Byte) : State := { s with a := r, flags := s.flags.setNZ r }

/-- A new value for X, with Z and N from it (R26). -/
def State.putX (s : State) (r : Byte) : State := { s with x := r, flags := s.flags.setNZ r }

/-- A new value for Y, with Z and N from it (R26). -/
def State.putY (s : State) (r : Byte) : State := { s with y := r, flags := s.flags.setNZ r }

/-- The address that a value of S denotes: `$0100 + S` (R13, R34). -/
def stackAddr (sp : Byte) : Word := wordOf stackPage sp

/-- `Push(v)` (R34): store at `$0100 + S`, then decrement S. -/
def State.push (s : State) (v : Byte) : State :=
  { s.write (stackAddr s.sp) v with sp := s.sp - 1 }

/-- A 16-bit value is pushed high byte first (R34). -/
def State.pushWord (s : State) (w : Word) : State := (s.push (hiByte w)).push (loByte w)

/-- The byte that `Pull()` returns: the one at `$0100 + (S + 1)` (R34). -/
def State.pullByte (s : State) : Byte := s.read .stack (stackAddr (s.sp + 1))

/-- What `Pull()` leaves: S incremented (R34). -/
def State.afterPull (s : State) : State := { s with sp := s.sp + 1 }

/-- The 16-bit value that two pulls give, the low byte first (R34). -/
def State.pullWord (s : State) : Word := wordOf s.afterPull.pullByte s.pullByte

/-- What enters the handler at the vector $FFFE (R203). -/
inductive TrapKind where
  | brk  -- executing BRK
  | irq  -- a serviced interrupt request
deriving DecidableEq, Repr

/-- Bit 4 of the pushed status, and the B that entry leaves under `latch`: 1 for BRK, 0 for an interrupt request (R203). -/
def TrapKind.bit4 : TrapKind → Bool
  | .brk => true
  | .irq => false

/-- The I flag that entry leaves: 1 for an interrupt request, for BRK by `BRK_SETS_I` (R203). -/
def TrapKind.iAfter (k : TrapKind) (p : Params) (i : Bool) : Bool :=
  match k with
  | .irq => true
  | .brk => p.brkSetsI || i

/-- The B flag that entry leaves (R203): stored only under `latch`. -/
def TrapKind.bAfter (k : TrapKind) (p : Params) (b : Bool) : Bool :=
  match p.bModel with
  | .latch => k.bit4
  | .pushedOnly => b

/-- `InterruptEntry(kind, ret)` (R203): push `ret`, high byte first; push the status of before entry, with bit 4 by
kind; set B and I; load the pc from $FFFE/F, read after the pushes (R45). Log 19. -/
def State.interruptEntry (s : State) (k : TrapKind) (ret : Word) : State :=
  let t := (s.pushWord ret).push (packP s.flags k.bit4)
  { t with
    flags := { s.flags with b := k.bAfter s.params s.flags.b, i := k.iAfter s.params s.flags.i }
    pc := t.readWord .vector irqVector }

/-- The return from an interrupt (R142, R206): pull the status into the flags, then the pc, low byte first, with nothing
added. -/
def State.returnFromInterrupt (s : State) : State :=
  let t := s.afterPull
  { t.afterPull.afterPull with
    flags := unpackP s.params.bModel s.flags s.pullByte
    pc := t.pullWord }

end Sys2Proof.Machine
end

