-- ==== Sys2Proof/Machine/Boundary.lean ====
section
/-! DEFINITION. What happens at an instruction boundary (spec/60_exceptions.md R202, R205): reset, an interrupt request,
or the fetch of the next instruction (spec/30_encoding.md R50, R52). -/

namespace Sys2Proof.Machine

open Sys2Proof.Config

/-- What the environment does at the coming boundary; past the end of the list, nothing. -/
def State.input (s : State) : BoundaryInput := s.inputs.headD .quiet

/-- `mask` (R202): the current I; right after CLI, SEI or PLP the I of before it where the environment so chooses. -/
def State.mask (s : State) : Bool :=
  match s.prevI with
  | none => s.flags.i
  | some old => if s.input.maskOld then old else s.flags.i

/-- What a boundary leads to. -/
inductive Boundary where
  | reset    -- the reset sequence (R230)
  | irq      -- interrupt entry (R203)
  | execute  -- the instruction at the pc (R52)
deriving DecidableEq, Repr

/-- Reset wins over everything (R205); then an interrupt request that is not masked (R202); else the instruction. -/
def State.boundary (s : State) : Boundary :=
  if s.input.reset then .reset
  else if s.input.irq && !s.mask then .irq
  else .execute

/-- Past the boundary: its input is used up, CLI, SEI and PLP of before it count no more, and the free values are new. -/
def State.beginStep (s : State) : State :=
  { s with inputs := s.inputs.tail, prevI := none, draws := s.draws + 1 }

/-- A reset at a boundary of a running machine (R230): I = 1, the pc from $FFFC/D, memory kept, nothing pushed, every
other register and flag a free value (log 9). -/
def State.resetSequence (s : State) : State :=
  { s with
    a := resetByte s.draws .a
    x := resetByte s.draws .x
    y := resetByte s.draws .y
    sp := resetByte s.draws .s
    flags :=
      { c := resetFlag s.draws .c
        z := resetFlag s.draws .z
        i := true
        d := resetFlag s.draws .d
        b := match s.params.bModel with
             | .latch => resetFlag s.draws .b
             | .pushedOnly => s.flags.b
        v := resetFlag s.draws .v
        n := resetFlag s.draws .n }
    pc := s.readWord .vector resetVector }

/-- `byte<k>` of the instruction at the pc (R50): the byte at `pc + k` modulo 65536. -/
def State.fetchByte (s : State) (k : Nat) : Byte := s.read .fetch (s.pc + BitVec.ofNat 16 k)

/-- The instruction at the pc, or nothing where its opcode byte is undefined (R52, R67). -/
def State.fetchInstr (s : State) : Option Instr :=
  decodeBytes (s.fetchByte 0) (s.fetchByte 1) (s.fetchByte 2)

/-- A region of plain RAM at one address. -/
def ramAt (a : Word) : Region := { base := a.toNat, size := 1, kind := .ram }

/-- Can the address hold a byte that a fetch reads back? -/
def State.holdsBytes (s : State) (a : Word) : Bool :=
  match s.kindAt a with
  | .ram => true
  | .rom => true
  | .device => false
  | .unmapped => false

/-- Put a byte where the next fetch reads it: straight into the contents of memory, whatever the map says of writes,
and where the map has no memory at the address, RAM there. -/
def State.place (s : State) (a : Word) (v : Byte) : State :=
  { s with
    mem := s.mem.set a.toNat v
    params := if s.holdsBytes a then s.params else { s.params with memMap := ramAt a :: s.params.memMap } }

/-- Three bytes at the pc, and a boundary at which the instruction there is executed. Log 3. -/
def State.placeInstr (s : State) (b0 b1 b2 : Byte) : State :=
  { ((s.place s.pc b0).place (s.pc + 1) b1).place (s.pc + 2) b2 with
    inputs := match s.boundary with
              | .execute => s.inputs
              | .reset => .quiet :: s.inputs.tail
              | .irq => .quiet :: s.inputs.tail }

end Sys2Proof.Machine
end

