-- ==== Sys2Proof/Machine/Operands.lean ====
section
/-! DEFINITION. The addressing modes: the effective address `EA(mode)` of each (spec/30_encoding.md R53 to R65), and the
targets of branches and of JMP Indirect. Their computations are the spec's decision D10 (log 20). -/

namespace Sys2Proof.Machine

/-- A byte as an address in page $00. -/
def zeroPage (b : Byte) : Word := wordOf 0 b

/-- `EA(ZP)` (R56). -/
def eaZp (zp : Byte) : Word := zeroPage zp

/-- `EA(ZPX)` (R57): the sum wraps within page $00. -/
def eaZpX (s : State) (zp : Byte) : Word := zeroPage (zp + s.x)

/-- `EA(ZPY)` (R58): the sum wraps within page $00. -/
def eaZpY (s : State) (zp : Byte) : Word := zeroPage (zp + s.y)

/-- `EA(ABS)` (R60). -/
def eaAbs (addr : Word) : Word := addr

/-- `EA(ABSX)` (R61): X is unsigned; the sum wraps at $FFFF. -/
def eaAbsX (s : State) (addr : Word) : Word := addr + s.x.setWidth 16

/-- `EA(ABSY)` (R62). -/
def eaAbsY (s : State) (addr : Word) : Word := addr + s.y.setWidth 16

/-- The two-byte pointer in page $00 at `p`: its high byte is at `p + 1` modulo 256 (R64, R65). -/
def zeroPagePointer (s : State) (p : Byte) : Word :=
  wordOf (s.read .pointer (zeroPage (p + 1))) (s.read .pointer (zeroPage p))

/-- `EA(INDX)` (R64): the index is added before the indirection, modulo 256. -/
def eaIndX (s : State) (zp : Byte) : Word := zeroPagePointer s (zp + s.x)

/-- `EA(INDY)` (R65): the index is added after the indirection, to all 16 bits. -/
def eaIndY (s : State) (zp : Byte) : Word := zeroPagePointer s zp + s.y.setWidth 16

/-- The jump target of the Indirect mode (R63, R170): the high byte is read from the same page as the low byte
(`JMP_INDIRECT_PAGE_WRAP = true`). -/
def indirectTarget (s : State) (v : Word) : Word :=
  wordOf (s.read .pointer (wordOf (hiByte v) (loByte v + 1))) (s.read .pointer v)

/-- The address of the instruction after a branch (R130). -/
def branchNext (s : State) : Word := s.pc + 2

/-- A branch's target (R59, R130): the displacement is signed and relative to the instruction after the branch. -/
def branchTarget (s : State) (rel : Byte) : Word := branchNext s + rel.signExtend 16

end Sys2Proof.Machine
end

