-- ==== Sys2Proof/Machine/Arithmetic.lean ====
section
/-! DEFINITION. Arithmetic and compare instructions (spec/40_arithmetic_compare.md): the effect once, then
one meaning for each row of the opcode table, in its addressing mode (spec/30_encoding.md R53 to R65). -/

namespace Sys2Proof.Machine

open Sys2Proof.Config

/-- ADC's effect on A and the flags (R100): binary, or with D = 1 the open function of R105 (log 5). -/
def State.adc (s : State) (m : Byte) : State :=
  if s.flags.d then
    let r := decimalAdc s.a m s.flags.c
    { s with a := r.a, flags := { s.flags with c := r.c, z := r.z, v := r.v, n := r.n } }
  else
    let t := addBinary s.a m s.flags.c
    { s with a := t.r, flags := { s.flags.setNZ t.r with c := t.c, v := t.v } }

/-- SBC's effect on A and the flags (R101): the addition of `~M`, or with D = 1 the open function of R105 (log 5). -/
def State.sbc (s : State) (m : Byte) : State :=
  if s.flags.d then
    let r := decimalSbc s.a m s.flags.c
    { s with a := r.a, flags := { s.flags with c := r.c, z := r.z, v := r.v, n := r.n } }
  else
    let t := addBinary s.a (~~~m) s.flags.c
    { s with a := t.r, flags := { s.flags.setNZ t.r with c := t.c, v := t.v } }

/-- The effect of CMP, CPX and CPY (R102, R103, R104) for the register's value: flags only, D has no part in it. -/
def State.compare (s : State) (reg m : Byte) : State :=
  { s with flags := s.flags.compare reg m }

/-- ADC Immediate, `$69` (R100). -/
def execAdcImm (imm : Byte) (s : State) : Result := .next ((s.adc imm).advance 2)

/-- ADC Zero Page, `$65` (R100). -/
def execAdcZp (zp : Byte) (s : State) : Result := .next ((s.adc (s.operand (eaZp zp))).advance 2)

/-- ADC Zero Page,X, `$75` (R100). -/
def execAdcZpX (zp : Byte) (s : State) : Result := .next ((s.adc (s.operand (eaZpX s zp))).advance 2)

/-- ADC Absolute, `$6D` (R100). -/
def execAdcAbs (addr : Word) (s : State) : Result := .next ((s.adc (s.operand (eaAbs addr))).advance 3)

/-- ADC Absolute,X, `$7D` (R100). -/
def execAdcAbsX (addr : Word) (s : State) : Result := .next ((s.adc (s.operand (eaAbsX s addr))).advance 3)

/-- ADC Absolute,Y, `$79` (R100). -/
def execAdcAbsY (addr : Word) (s : State) : Result := .next ((s.adc (s.operand (eaAbsY s addr))).advance 3)

/-- ADC (Indirect,X), `$61` (R100). -/
def execAdcIndX (zp : Byte) (s : State) : Result := .next ((s.adc (s.operand (eaIndX s zp))).advance 2)

/-- ADC (Indirect),Y, `$71` (R100). -/
def execAdcIndY (zp : Byte) (s : State) : Result := .next ((s.adc (s.operand (eaIndY s zp))).advance 2)

/-- SBC Immediate, `$E9` (R101). -/
def execSbcImm (imm : Byte) (s : State) : Result := .next ((s.sbc imm).advance 2)

/-- SBC Zero Page, `$E5` (R101). -/
def execSbcZp (zp : Byte) (s : State) : Result := .next ((s.sbc (s.operand (eaZp zp))).advance 2)

/-- SBC Zero Page,X, `$F5` (R101). -/
def execSbcZpX (zp : Byte) (s : State) : Result := .next ((s.sbc (s.operand (eaZpX s zp))).advance 2)

/-- SBC Absolute, `$ED` (R101). -/
def execSbcAbs (addr : Word) (s : State) : Result := .next ((s.sbc (s.operand (eaAbs addr))).advance 3)

/-- SBC Absolute,X, `$FD` (R101). -/
def execSbcAbsX (addr : Word) (s : State) : Result := .next ((s.sbc (s.operand (eaAbsX s addr))).advance 3)

/-- SBC Absolute,Y, `$F9` (R101). -/
def execSbcAbsY (addr : Word) (s : State) : Result := .next ((s.sbc (s.operand (eaAbsY s addr))).advance 3)

/-- SBC (Indirect,X), `$E1` (R101). -/
def execSbcIndX (zp : Byte) (s : State) : Result := .next ((s.sbc (s.operand (eaIndX s zp))).advance 2)

/-- SBC (Indirect),Y, `$F1` (R101). -/
def execSbcIndY (zp : Byte) (s : State) : Result := .next ((s.sbc (s.operand (eaIndY s zp))).advance 2)

/-- CMP Immediate, `$C9` (R102). -/
def execCmpImm (imm : Byte) (s : State) : Result := .next ((s.compare s.a imm).advance 2)

/-- CMP Zero Page, `$C5` (R102). -/
def execCmpZp (zp : Byte) (s : State) : Result := .next ((s.compare s.a (s.operand (eaZp zp))).advance 2)

/-- CMP Zero Page,X, `$D5` (R102). -/
def execCmpZpX (zp : Byte) (s : State) : Result := .next ((s.compare s.a (s.operand (eaZpX s zp))).advance 2)

/-- CMP Absolute, `$CD` (R102). -/
def execCmpAbs (addr : Word) (s : State) : Result := .next ((s.compare s.a (s.operand (eaAbs addr))).advance 3)

/-- CMP Absolute,X, `$DD` (R102). -/
def execCmpAbsX (addr : Word) (s : State) : Result := .next ((s.compare s.a (s.operand (eaAbsX s addr))).advance 3)

/-- CMP Absolute,Y, `$D9` (R102). -/
def execCmpAbsY (addr : Word) (s : State) : Result := .next ((s.compare s.a (s.operand (eaAbsY s addr))).advance 3)

/-- CMP (Indirect,X), `$C1` (R102). -/
def execCmpIndX (zp : Byte) (s : State) : Result := .next ((s.compare s.a (s.operand (eaIndX s zp))).advance 2)

/-- CMP (Indirect),Y, `$D1` (R102). -/
def execCmpIndY (zp : Byte) (s : State) : Result := .next ((s.compare s.a (s.operand (eaIndY s zp))).advance 2)

/-- CPX Immediate, `$E0` (R103). -/
def execCpxImm (imm : Byte) (s : State) : Result := .next ((s.compare s.x imm).advance 2)

/-- CPX Zero Page, `$E4` (R103). -/
def execCpxZp (zp : Byte) (s : State) : Result := .next ((s.compare s.x (s.operand (eaZp zp))).advance 2)

/-- CPX Absolute, `$EC` (R103). -/
def execCpxAbs (addr : Word) (s : State) : Result := .next ((s.compare s.x (s.operand (eaAbs addr))).advance 3)

/-- CPY Immediate, `$C0` (R104). -/
def execCpyImm (imm : Byte) (s : State) : Result := .next ((s.compare s.y imm).advance 2)

/-- CPY Zero Page, `$C4` (R104). -/
def execCpyZp (zp : Byte) (s : State) : Result := .next ((s.compare s.y (s.operand (eaZp zp))).advance 2)

/-- CPY Absolute, `$CC` (R104). -/
def execCpyAbs (addr : Word) (s : State) : Result := .next ((s.compare s.y (s.operand (eaAbs addr))).advance 3)

end Sys2Proof.Machine
end

