-- ==== Sys2Proof/Machine/Branches.lean ====
section
/-! DEFINITION. Conditional branches (spec/43_branches.md): the effect once, then
one meaning for each row of the opcode table, in its addressing mode (spec/30_encoding.md R53 to R65). -/

namespace Sys2Proof.Machine

open Sys2Proof.Config

/-- The common branch rule (R130). -/
def State.branch (s : State) (cond : Bool) (rel : Byte) : State :=
  { s with pc := if cond then branchTarget s rel else branchNext s }

/-- BCC Relative, `$90` (R131). -/
def execBcc (rel : Byte) (s : State) : Result := .next (s.branch (!s.flags.c) rel)

/-- BCS Relative, `$B0` (R132). -/
def execBcs (rel : Byte) (s : State) : Result := .next (s.branch s.flags.c rel)

/-- BEQ Relative, `$F0` (R133). -/
def execBeq (rel : Byte) (s : State) : Result := .next (s.branch s.flags.z rel)

/-- BMI Relative, `$30` (R134). -/
def execBmi (rel : Byte) (s : State) : Result := .next (s.branch s.flags.n rel)

/-- BNE Relative, `$D0` (R135). -/
def execBne (rel : Byte) (s : State) : Result := .next (s.branch (!s.flags.z) rel)

/-- BPL Relative, `$10` (R136). -/
def execBpl (rel : Byte) (s : State) : Result := .next (s.branch (!s.flags.n) rel)

/-- BVC Relative, `$50` (R137). -/
def execBvc (rel : Byte) (s : State) : Result := .next (s.branch (!s.flags.v) rel)

/-- BVS Relative, `$70` (R138). -/
def execBvs (rel : Byte) (s : State) : Result := .next (s.branch s.flags.v rel)

end Sys2Proof.Machine
end

