-- ==== Sys2Proof/Machine/FlagInstructions.lean ====
section
/-! DEFINITION. Flag instructions (spec/45_flags.md): the effect once, then
one meaning for each row of the opcode table, in its addressing mode (spec/30_encoding.md R53 to R65). -/

namespace Sys2Proof.Machine

open Sys2Proof.Config

/-- CLI and SEI write I, and the boundary right after them may still use the old I (spec/60_exceptions.md R202). -/
def State.writeI (s : State) (i : Bool) : State :=
  { s with flags := { s.flags with i := i }, prevI := some s.flags.i }

/-- CLC, `$18` (R150). -/
def execClc (s : State) : Result := .next ({ s with flags := { s.flags with c := false } }.advance 1)

/-- CLD, `$D8` (R151). -/
def execCld (s : State) : Result := .next ({ s with flags := { s.flags with d := false } }.advance 1)

/-- CLI, `$58` (R152). -/
def execCli (s : State) : Result := .next ((s.writeI false).advance 1)

/-- CLV, `$B8` (R153). -/
def execClv (s : State) : Result := .next ({ s with flags := { s.flags with v := false } }.advance 1)

/-- SEC, `$38` (R154). -/
def execSec (s : State) : Result := .next ({ s with flags := { s.flags with c := true } }.advance 1)

/-- SED, `$F8` (R155). -/
def execSed (s : State) : Result := .next ({ s with flags := { s.flags with d := true } }.advance 1)

/-- SEI, `$78` (R156). -/
def execSei (s : State) : Result := .next ((s.writeI true).advance 1)

end Sys2Proof.Machine
end

