-- ==== Sys2Proof/Machine/IncDec.lean ====
section
/-! DEFINITION. Increment and decrement instructions (spec/46_incdec.md): the effect once, then
one meaning for each row of the opcode table, in its addressing mode (spec/30_encoding.md R53 to R65). -/

namespace Sys2Proof.Machine

open Sys2Proof.Config

/-- Add one to the byte at an address (R163): one read, one write, Z and N from the result. -/
def State.incMem (s : State) (a : Word) : State :=
  let r := s.operand a + 1
  { s.write a r with flags := s.flags.setNZ r }

/-- Subtract one from the byte at an address (R160). -/
def State.decMem (s : State) (a : Word) : State :=
  let r := s.operand a - 1
  { s.write a r with flags := s.flags.setNZ r }

/-- DEC Zero Page, `$C6` (R160). -/
def execDecZp (zp : Byte) (s : State) : Result := .next ((s.decMem (eaZp zp)).advance 2)

/-- DEC Zero Page,X, `$D6` (R160). -/
def execDecZpX (zp : Byte) (s : State) : Result := .next ((s.decMem (eaZpX s zp)).advance 2)

/-- DEC Absolute, `$CE` (R160). -/
def execDecAbs (addr : Word) (s : State) : Result := .next ((s.decMem (eaAbs addr)).advance 3)

/-- DEC Absolute,X, `$DE` (R160). -/
def execDecAbsX (addr : Word) (s : State) : Result := .next ((s.decMem (eaAbsX s addr)).advance 3)

/-- DEX, `$CA` (R161). -/
def execDex (s : State) : Result := .next ((s.putX (s.x - 1)).advance 1)

/-- DEY, `$88` (R162). -/
def execDey (s : State) : Result := .next ((s.putY (s.y - 1)).advance 1)

/-- INC Zero Page, `$E6` (R163). -/
def execIncZp (zp : Byte) (s : State) : Result := .next ((s.incMem (eaZp zp)).advance 2)

/-- INC Zero Page,X, `$F6` (R163). -/
def execIncZpX (zp : Byte) (s : State) : Result := .next ((s.incMem (eaZpX s zp)).advance 2)

/-- INC Absolute, `$EE` (R163). -/
def execIncAbs (addr : Word) (s : State) : Result := .next ((s.incMem (eaAbs addr)).advance 3)

/-- INC Absolute,X, `$FE` (R163). -/
def execIncAbsX (addr : Word) (s : State) : Result := .next ((s.incMem (eaAbsX s addr)).advance 3)

/-- INX, `$E8` (R164). -/
def execInx (s : State) : Result := .next ((s.putX (s.x + 1)).advance 1)

/-- INY, `$C8` (R165). -/
def execIny (s : State) : Result := .next ((s.putY (s.y + 1)).advance 1)

end Sys2Proof.Machine
end

