-- ==== Sys2Proof/Machine/Jumps.lean ====
section
/-! DEFINITION. Jumps, calls and returns (spec/47_jumps.md): the effect once, then
one meaning for each row of the opcode table, in its addressing mode (spec/30_encoding.md R53 to R65). -/

namespace Sys2Proof.Machine

open Sys2Proof.Config

/-- JSR's effect (R171): push `pc + 2`, the address of the return point minus one, and go to the target. -/
def State.call (s : State) (target : Word) : State :=
  { s.pushWord (s.pc + 2) with pc := target }

/-- RTS's effect (R172): pull the pc, low byte first, and add one. -/
def State.returnFromCall (s : State) : State :=
  { s.afterPull.afterPull with pc := s.pullWord + 1 }

/-- JMP Absolute, `$4C` (R170). -/
def execJmpAbs (addr : Word) (s : State) : Result := .next { s with pc := addr }

/-- JMP Indirect, `$6C` (R170). -/
def execJmpInd (addr : Word) (s : State) : Result := .next { s with pc := indirectTarget s addr }

/-- JSR Absolute, `$20` (R171). -/
def execJsr (addr : Word) (s : State) : Result := .next (s.call addr)

/-- RTS, `$60` (R172). -/
def execRts (s : State) : Result := .next s.returnFromCall

end Sys2Proof.Machine
end

