-- ==== Sys2Proof/Machine/LoadStore.lean ====
section
/-! DEFINITION. Loads and stores (spec/48_load_store.md): the effect once, then
one meaning for each row of the opcode table, in its addressing mode (spec/30_encoding.md R53 to R65). -/

namespace Sys2Proof.Machine

open Sys2Proof.Config

/-- LDA Immediate, `$A9` (R180). -/
def execLdaImm (imm : Byte) (s : State) : Result := .next ((s.putA imm).advance 2)

/-- LDA Zero Page, `$A5` (R180). -/
def execLdaZp (zp : Byte) (s : State) : Result := .next ((s.putA (s.operand (eaZp zp))).advance 2)

/-- LDA Zero Page,X, `$B5` (R180). -/
def execLdaZpX (zp : Byte) (s : State) : Result := .next ((s.putA (s.operand (eaZpX s zp))).advance 2)

/-- LDA Absolute, `$AD` (R180). -/
def execLdaAbs (addr : Word) (s : State) : Result := .next ((s.putA (s.operand (eaAbs addr))).advance 3)

/-- LDA Absolute,X, `$BD` (R180). -/
def execLdaAbsX (addr : Word) (s : State) : Result := .next ((s.putA (s.operand (eaAbsX s addr))).advance 3)

/-- LDA Absolute,Y, `$B9` (R180). -/
def execLdaAbsY (addr : Word) (s : State) : Result := .next ((s.putA (s.operand (eaAbsY s addr))).advance 3)

/-- LDA (Indirect,X), `$A1` (R180). -/
def execLdaIndX (zp : Byte) (s : State) : Result := .next ((s.putA (s.operand (eaIndX s zp))).advance 2)

/-- LDA (Indirect),Y, `$B1` (R180). -/
def execLdaIndY (zp : Byte) (s : State) : Result := .next ((s.putA (s.operand (eaIndY s zp))).advance 2)

/-- LDX Immediate, `$A2` (R181). -/
def execLdxImm (imm : Byte) (s : State) : Result := .next ((s.putX imm).advance 2)

/-- LDX Zero Page, `$A6` (R181). -/
def execLdxZp (zp : Byte) (s : State) : Result := .next ((s.putX (s.operand (eaZp zp))).advance 2)

/-- LDX Zero Page,Y, `$B6` (R181). -/
def execLdxZpY (zp : Byte) (s : State) : Result := .next ((s.putX (s.operand (eaZpY s zp))).advance 2)

/-- LDX Absolute, `$AE` (R181). -/
def execLdxAbs (addr : Word) (s : State) : Result := .next ((s.putX (s.operand (eaAbs addr))).advance 3)

/-- LDX Absolute,Y, `$BE` (R181). -/
def execLdxAbsY (addr : Word) (s : State) : Result := .next ((s.putX (s.operand (eaAbsY s addr))).advance 3)

/-- LDY Immediate, `$A0` (R182). -/
def execLdyImm (imm : Byte) (s : State) : Result := .next ((s.putY imm).advance 2)

/-- LDY Zero Page, `$A4` (R182). -/
def execLdyZp (zp : Byte) (s : State) : Result := .next ((s.putY (s.operand (eaZp zp))).advance 2)

/-- LDY Zero Page,X, `$B4` (R182). -/
def execLdyZpX (zp : Byte) (s : State) : Result := .next ((s.putY (s.operand (eaZpX s zp))).advance 2)

/-- LDY Absolute, `$AC` (R182). -/
def execLdyAbs (addr : Word) (s : State) : Result := .next ((s.putY (s.operand (eaAbs addr))).advance 3)

/-- LDY Absolute,X, `$BC` (R182). -/
def execLdyAbsX (addr : Word) (s : State) : Result := .next ((s.putY (s.operand (eaAbsX s addr))).advance 3)

/-- STA Zero Page, `$85` (R183). -/
def execStaZp (zp : Byte) (s : State) : Result := .next ((s.write (eaZp zp) s.a).advance 2)

/-- STA Zero Page,X, `$95` (R183). -/
def execStaZpX (zp : Byte) (s : State) : Result := .next ((s.write (eaZpX s zp) s.a).advance 2)

/-- STA Absolute, `$8D` (R183). -/
def execStaAbs (addr : Word) (s : State) : Result := .next ((s.write (eaAbs addr) s.a).advance 3)

/-- STA Absolute,X, `$9D` (R183). -/
def execStaAbsX (addr : Word) (s : State) : Result := .next ((s.write (eaAbsX s addr) s.a).advance 3)

/-- STA Absolute,Y, `$99` (R183). -/
def execStaAbsY (addr : Word) (s : State) : Result := .next ((s.write (eaAbsY s addr) s.a).advance 3)

/-- STA (Indirect,X), `$81` (R183). -/
def execStaIndX (zp : Byte) (s : State) : Result := .next ((s.write (eaIndX s zp) s.a).advance 2)

/-- STA (Indirect),Y, `$91` (R183). -/
def execStaIndY (zp : Byte) (s : State) : Result := .next ((s.write (eaIndY s zp) s.a).advance 2)

/-- STX Zero Page, `$86` (R184). -/
def execStxZp (zp : Byte) (s : State) : Result := .next ((s.write (eaZp zp) s.x).advance 2)

/-- STX Zero Page,Y, `$96` (R184). -/
def execStxZpY (zp : Byte) (s : State) : Result := .next ((s.write (eaZpY s zp) s.x).advance 2)

/-- STX Absolute, `$8E` (R184). -/
def execStxAbs (addr : Word) (s : State) : Result := .next ((s.write (eaAbs addr) s.x).advance 3)

/-- STY Zero Page, `$84` (R185). -/
def execStyZp (zp : Byte) (s : State) : Result := .next ((s.write (eaZp zp) s.y).advance 2)

/-- STY Zero Page,X, `$94` (R185). -/
def execStyZpX (zp : Byte) (s : State) : Result := .next ((s.write (eaZpX s zp) s.y).advance 2)

/-- STY Absolute, `$8C` (R185). -/
def execStyAbs (addr : Word) (s : State) : Result := .next ((s.write (eaAbs addr) s.y).advance 3)

end Sys2Proof.Machine
end

