-- ==== Sys2Proof/Machine/Logical.lean ====
section
/-! DEFINITION. Logical instructions (spec/41_logical.md): the effect once, then
one meaning for each row of the opcode table, in its addressing mode (spec/30_encoding.md R53 to R65). -/

namespace Sys2Proof.Machine

open Sys2Proof.Config

/-- BIT's effect (R111): Z from `A & M`, N and V from bits 7 and 6 of `M` itself. -/
def State.bitTest (s : State) (m : Byte) : State :=
  { s with flags := { s.flags with z := decide (s.a &&& m = 0), n := m.getLsbD 7, v := m.getLsbD 6 } }

/-- AND Immediate, `$29` (R110). -/
def execAndImm (imm : Byte) (s : State) : Result := .next ((s.putA (s.a &&& imm)).advance 2)

/-- AND Zero Page, `$25` (R110). -/
def execAndZp (zp : Byte) (s : State) : Result := .next ((s.putA (s.a &&& s.operand (eaZp zp))).advance 2)

/-- AND Zero Page,X, `$35` (R110). -/
def execAndZpX (zp : Byte) (s : State) : Result := .next ((s.putA (s.a &&& s.operand (eaZpX s zp))).advance 2)

/-- AND Absolute, `$2D` (R110). -/
def execAndAbs (addr : Word) (s : State) : Result := .next ((s.putA (s.a &&& s.operand (eaAbs addr))).advance 3)

/-- AND Absolute,X, `$3D` (R110). -/
def execAndAbsX (addr : Word) (s : State) : Result := .next ((s.putA (s.a &&& s.operand (eaAbsX s addr))).advance 3)

/-- AND Absolute,Y, `$39` (R110). -/
def execAndAbsY (addr : Word) (s : State) : Result := .next ((s.putA (s.a &&& s.operand (eaAbsY s addr))).advance 3)

/-- AND (Indirect,X), `$21` (R110). -/
def execAndIndX (zp : Byte) (s : State) : Result := .next ((s.putA (s.a &&& s.operand (eaIndX s zp))).advance 2)

/-- AND (Indirect),Y, `$31` (R110). -/
def execAndIndY (zp : Byte) (s : State) : Result := .next ((s.putA (s.a &&& s.operand (eaIndY s zp))).advance 2)

/-- BIT Zero Page, `$24` (R111). -/
def execBitZp (zp : Byte) (s : State) : Result := .next ((s.bitTest (s.operand (eaZp zp))).advance 2)

/-- BIT Absolute, `$2C` (R111). -/
def execBitAbs (addr : Word) (s : State) : Result := .next ((s.bitTest (s.operand (eaAbs addr))).advance 3)

/-- EOR Immediate, `$49` (R112). -/
def execEorImm (imm : Byte) (s : State) : Result := .next ((s.putA (s.a ^^^ imm)).advance 2)

/-- EOR Zero Page, `$45` (R112). -/
def execEorZp (zp : Byte) (s : State) : Result := .next ((s.putA (s.a ^^^ s.operand (eaZp zp))).advance 2)

/-- EOR Zero Page,X, `$55` (R112). -/
def execEorZpX (zp : Byte) (s : State) : Result := .next ((s.putA (s.a ^^^ s.operand (eaZpX s zp))).advance 2)

/-- EOR Absolute, `$4D` (R112). -/
def execEorAbs (addr : Word) (s : State) : Result := .next ((s.putA (s.a ^^^ s.operand (eaAbs addr))).advance 3)

/-- EOR Absolute,X, `$5D` (R112). -/
def execEorAbsX (addr : Word) (s : State) : Result := .next ((s.putA (s.a ^^^ s.operand (eaAbsX s addr))).advance 3)

/-- EOR Absolute,Y, `$59` (R112). -/
def execEorAbsY (addr : Word) (s : State) : Result := .next ((s.putA (s.a ^^^ s.operand (eaAbsY s addr))).advance 3)

/-- EOR (Indirect,X), `$41` (R112). -/
def execEorIndX (zp : Byte) (s : State) : Result := .next ((s.putA (s.a ^^^ s.operand (eaIndX s zp))).advance 2)

/-- EOR (Indirect),Y, `$51` (R112). -/
def execEorIndY (zp : Byte) (s : State) : Result := .next ((s.putA (s.a ^^^ s.operand (eaIndY s zp))).advance 2)

/-- ORA Immediate, `$09` (R113). -/
def execOraImm (imm : Byte) (s : State) : Result := .next ((s.putA (s.a ||| imm)).advance 2)

/-- ORA Zero Page, `$05` (R113). -/
def execOraZp (zp : Byte) (s : State) : Result := .next ((s.putA (s.a ||| s.operand (eaZp zp))).advance 2)

/-- ORA Zero Page,X, `$15` (R113). -/
def execOraZpX (zp : Byte) (s : State) : Result := .next ((s.putA (s.a ||| s.operand (eaZpX s zp))).advance 2)

/-- ORA Absolute, `$0D` (R113). -/
def execOraAbs (addr : Word) (s : State) : Result := .next ((s.putA (s.a ||| s.operand (eaAbs addr))).advance 3)

/-- ORA Absolute,X, `$1D` (R113). -/
def execOraAbsX (addr : Word) (s : State) : Result := .next ((s.putA (s.a ||| s.operand (eaAbsX s addr))).advance 3)

/-- ORA Absolute,Y, `$19` (R113). -/
def execOraAbsY (addr : Word) (s : State) : Result := .next ((s.putA (s.a ||| s.operand (eaAbsY s addr))).advance 3)

/-- ORA (Indirect,X), `$01` (R113). -/
def execOraIndX (zp : Byte) (s : State) : Result := .next ((s.putA (s.a ||| s.operand (eaIndX s zp))).advance 2)

/-- ORA (Indirect),Y, `$11` (R113). -/
def execOraIndY (zp : Byte) (s : State) : Result := .next ((s.putA (s.a ||| s.operand (eaIndY s zp))).advance 2)

end Sys2Proof.Machine
end

