-- ==== Sys2Proof/Machine/Shifts.lean ====
section
/-! DEFINITION. Shift and rotate instructions (spec/42_shifts.md): the effect once, then
one meaning for each row of the opcode table, in its addressing mode (spec/30_encoding.md R53 to R65). -/

namespace Sys2Proof.Machine

open Sys2Proof.Config

/-- A shift in Accumulator mode (R124). -/
def State.shiftAcc (s : State) (f : Byte → Bool → ShiftResult) : State :=
  let t := f s.a s.flags.c
  { s with a := t.r, flags := { s.flags.setNZ t.r with c := t.c } }

/-- A shift of the byte at an address (R124): one read, one write; Z and N from the byte written, A not involved. -/
def State.shiftMem (s : State) (f : Byte → Bool → ShiftResult) (a : Word) : State :=
  let t := f (s.operand a) s.flags.c
  { s.write a t.r with flags := { s.flags.setNZ t.r with c := t.c } }

/-- ASL Accumulator, `$0A` (R120). -/
def execAslAcc (s : State) : Result := .next ((s.shiftAcc shiftAsl).advance 1)

/-- ASL Zero Page, `$06` (R120). -/
def execAslZp (zp : Byte) (s : State) : Result := .next ((s.shiftMem shiftAsl (eaZp zp)).advance 2)

/-- ASL Zero Page,X, `$16` (R120). -/
def execAslZpX (zp : Byte) (s : State) : Result := .next ((s.shiftMem shiftAsl (eaZpX s zp)).advance 2)

/-- ASL Absolute, `$0E` (R120). -/
def execAslAbs (addr : Word) (s : State) : Result := .next ((s.shiftMem shiftAsl (eaAbs addr)).advance 3)

/-- ASL Absolute,X, `$1E` (R120). -/
def execAslAbsX (addr : Word) (s : State) : Result := .next ((s.shiftMem shiftAsl (eaAbsX s addr)).advance 3)

/-- LSR Accumulator, `$4A` (R121). -/
def execLsrAcc (s : State) : Result := .next ((s.shiftAcc shiftLsr).advance 1)

/-- LSR Zero Page, `$46` (R121). -/
def execLsrZp (zp : Byte) (s : State) : Result := .next ((s.shiftMem shiftLsr (eaZp zp)).advance 2)

/-- LSR Zero Page,X, `$56` (R121). -/
def execLsrZpX (zp : Byte) (s : State) : Result := .next ((s.shiftMem shiftLsr (eaZpX s zp)).advance 2)

/-- LSR Absolute, `$4E` (R121). -/
def execLsrAbs (addr : Word) (s : State) : Result := .next ((s.shiftMem shiftLsr (eaAbs addr)).advance 3)

/-- LSR Absolute,X, `$5E` (R121). -/
def execLsrAbsX (addr : Word) (s : State) : Result := .next ((s.shiftMem shiftLsr (eaAbsX s addr)).advance 3)

/-- ROL Accumulator, `$2A` (R122). -/
def execRolAcc (s : State) : Result := .next ((s.shiftAcc shiftRol).advance 1)

/-- ROL Zero Page, `$26` (R122). -/
def execRolZp (zp : Byte) (s : State) : Result := .next ((s.shiftMem shiftRol (eaZp zp)).advance 2)

/-- ROL Zero Page,X, `$36` (R122). -/
def execRolZpX (zp : Byte) (s : State) : Result := .next ((s.shiftMem shiftRol (eaZpX s zp)).advance 2)

/-- ROL Absolute, `$2E` (R122). -/
def execRolAbs (addr : Word) (s : State) : Result := .next ((s.shiftMem shiftRol (eaAbs addr)).advance 3)

/-- ROL Absolute,X, `$3E` (R122). -/
def execRolAbsX (addr : Word) (s : State) : Result := .next ((s.shiftMem shiftRol (eaAbsX s addr)).advance 3)

/-- ROR Accumulator, `$6A` (R123). -/
def execRorAcc (s : State) : Result := .next ((s.shiftAcc shiftRor).advance 1)

/-- ROR Zero Page, `$66` (R123). -/
def execRorZp (zp : Byte) (s : State) : Result := .next ((s.shiftMem shiftRor (eaZp zp)).advance 2)

/-- ROR Zero Page,X, `$76` (R123). -/
def execRorZpX (zp : Byte) (s : State) : Result := .next ((s.shiftMem shiftRor (eaZpX s zp)).advance 2)

/-- ROR Absolute, `$6E` (R123). -/
def execRorAbs (addr : Word) (s : State) : Result := .next ((s.shiftMem shiftRor (eaAbs addr)).advance 3)

/-- ROR Absolute,X, `$7E` (R123). -/
def execRorAbsX (addr : Word) (s : State) : Result := .next ((s.shiftMem shiftRor (eaAbsX s addr)).advance 3)

end Sys2Proof.Machine
end

