-- ==== Sys2Proof/Machine/StackTransfer.lean ====
section
/-! DEFINITION. Stack and register-transfer instructions (spec/49_stack_transfer.md): the effect once, then
one meaning for each row of the opcode table, in its addressing mode (spec/30_encoding.md R53 to R65). -/

namespace Sys2Proof.Machine

open Sys2Proof.Config

/-- PLP's effect (R193): every flag from the pulled byte (R18); the boundary right after it may still use the old I
(spec/60_exceptions.md R202). -/
def State.pullFlags (s : State) : State :=
  { s.afterPull with flags := unpackP s.params.bModel s.flags s.pullByte, prevI := some s.flags.i }

/-- PHA, `$48` (R190). -/
def execPha (s : State) : Result := .next ((s.push s.a).advance 1)

/-- PHP, `$08` (R191). -/
def execPhp (s : State) : Result := .next ((s.push (packP s.flags (phpBit4 s.params.bModel s.flags))).advance 1)

/-- PLA, `$68` (R192). -/
def execPla (s : State) : Result := .next ((s.afterPull.putA s.pullByte).advance 1)

/-- PLP, `$28` (R193). -/
def execPlp (s : State) : Result := .next (s.pullFlags.advance 1)

/-- TAX, `$AA` (R194). -/
def execTax (s : State) : Result := .next ((s.putX s.a).advance 1)

/-- TAY, `$A8` (R195). -/
def execTay (s : State) : Result := .next ((s.putY s.a).advance 1)

/-- TSX, `$BA` (R196). -/
def execTsx (s : State) : Result := .next ((s.putX s.sp).advance 1)

/-- TXA, `$8A` (R197). -/
def execTxa (s : State) : Result := .next ((s.putA s.x).advance 1)

/-- TXS, `$9A` (R198). -/
def execTxs (s : State) : Result := .next ({ s with sp := s.x }.advance 1)

/-- TYA, `$98` (R199). -/
def execTya (s : State) : Result := .next ((s.putA s.y).advance 1)

end Sys2Proof.Machine
end

