-- ==== Sys2Proof/Machine/System.lean ====
section
/-! DEFINITION. System instructions (spec/44_system.md): the effect once, then
one meaning for each row of the opcode table, in its addressing mode (spec/30_encoding.md R53 to R65). -/

namespace Sys2Proof.Machine

open Sys2Proof.Config

/-- BRK, `$00` (R140). -/
def execBrk (s : State) : Result := .next (s.interruptEntry .brk (s.pc + brkReturnOffset))

/-- NOP, `$EA` (R141). -/
def execNop (s : State) : Result := .next (s.advance 1)

/-- RTI, `$40` (R142). -/
def execRti (s : State) : Result := .next s.returnFromInterrupt

end Sys2Proof.Machine
end

