-- ==== Sys2Proof/Machine/Step.lean ====
section
/-! DEFINITION. One step: what the boundary leads to (spec/60_exceptions.md R202, R205), an instruction executed
whole (spec/00_scope.md R6). -/

namespace Sys2Proof.Machine

/-- One step of the machine. An undefined opcode byte is refused (spec/30_encoding.md R67). -/
def step (s : State) : Result :=
  match s.boundary with
  | .reset => .next s.beginStep.resetSequence
  | .irq => .next (s.beginStep.interruptEntry .irq s.pc)
  | .execute =>
    match s.beginStep.fetchInstr with
    | some i => exec i s.beginStep
    | none => .refused (.undefinedOpcode (s.beginStep.fetchByte 0))

/-- `s` with the instruction whose bits are `w` stored where `step` fetches its next one (bit 0 is the least significant
bit of the first byte, which lies at the lowest address), so that the next step runs it. Log 3. -/
def State.withFetchWord (s : State) (nbits w : Nat) : State :=
  s.placeInstr (tableByte nbits w 0) (tableByte nbits w 1) (tableByte nbits w 2)

end Sys2Proof.Machine
end

