-- ==== Sys2Proof/Machine/Timing.lean ====
section
/-! DEFINITION. Cycle counts (spec/70_reset_and_hazards.md R234) with the page crossings of spec/30_encoding.md R70. "This is timing
only: no rule of the model depends on it": no step uses this file (log 14). -/

namespace Sys2Proof.Machine

/-- The page of an address: its high byte (spec/20_memory.md R33). -/
def pageOf (a : Word) : Byte := hiByte a

/-- One cycle more where an indexed address has left the page of its base (R70). -/
def crossing (base ea : Word) : Nat := if pageOf ea = pageOf base then 0 else 1

/-- A branch's cycles: 2, taken 3, taken to another page than the next instruction's 4 (R234, R70). -/
def branchCycles (s : State) (cond : Bool) (rel : Byte) : Nat :=
  if cond then (if pageOf (branchTarget s rel) = pageOf (branchNext s) then 3 else 4) else 2

/-- The cycles of an instruction executed in a state (R234). -/
def cycles (s : State) : Instr → Nat
  | .adcImm _ => 2
  | .adcZp _ => 3
  | .adcZpX _ => 4
  | .adcAbs _ => 4
  | .adcAbsX addr => 4 + crossing addr (eaAbsX s addr)
  | .adcAbsY addr => 4 + crossing addr (eaAbsY s addr)
  | .adcIndX _ => 6
  | .adcIndY zp => 5 + crossing (zeroPagePointer s zp) (eaIndY s zp)
  | .sbcImm _ => 2
  | .sbcZp _ => 3
  | .sbcZpX _ => 4
  | .sbcAbs _ => 4
  | .sbcAbsX addr => 4 + crossing addr (eaAbsX s addr)
  | .sbcAbsY addr => 4 + crossing addr (eaAbsY s addr)
  | .sbcIndX _ => 6
  | .sbcIndY zp => 5 + crossing (zeroPagePointer s zp) (eaIndY s zp)
  | .cmpImm _ => 2
  | .cmpZp _ => 3
  | .cmpZpX _ => 4
  | .cmpAbs _ => 4
  | .cmpAbsX addr => 4 + crossing addr (eaAbsX s addr)
  | .cmpAbsY addr => 4 + crossing addr (eaAbsY s addr)
  | .cmpIndX _ => 6
  | .cmpIndY zp => 5 + crossing (zeroPagePointer s zp) (eaIndY s zp)
  | .cpxImm _ => 2
  | .cpxZp _ => 3
  | .cpxAbs _ => 4
  | .cpyImm _ => 2
  | .cpyZp _ => 3
  | .cpyAbs _ => 4
  | .andImm _ => 2
  | .andZp _ => 3
  | .andZpX _ => 4
  | .andAbs _ => 4
  | .andAbsX addr => 4 + crossing addr (eaAbsX s addr)
  | .andAbsY addr => 4 + crossing addr (eaAbsY s addr)
  | .andIndX _ => 6
  | .andIndY zp => 5 + crossing (zeroPagePointer s zp) (eaIndY s zp)
  | .bitZp _ => 3
  | .bitAbs _ => 4
  | .eorImm _ => 2
  | .eorZp _ => 3
  | .eorZpX _ => 4
  | .eorAbs _ => 4
  | .eorAbsX addr => 4 + crossing addr (eaAbsX s addr)
  | .eorAbsY addr => 4 + crossing addr (eaAbsY s addr)
  | .eorIndX _ => 6
  | .eorIndY zp => 5 + crossing (zeroPagePointer s zp) (eaIndY s zp)
  | .oraImm _ => 2
  | .oraZp _ => 3
  | .oraZpX _ => 4
  | .oraAbs _ => 4
  | .oraAbsX addr => 4 + crossing addr (eaAbsX s addr)
  | .oraAbsY addr => 4 + crossing addr (eaAbsY s addr)
  | .oraIndX _ => 6
  | .oraIndY zp => 5 + crossing (zeroPagePointer s zp) (eaIndY s zp)
  | .aslAcc => 2
  | .aslZp _ => 5
  | .aslZpX _ => 6
  | .aslAbs _ => 6
  | .aslAbsX _ => 7
  | .lsrAcc => 2
  | .lsrZp _ => 5
  | .lsrZpX _ => 6
  | .lsrAbs _ => 6
  | .lsrAbsX _ => 7
  | .rolAcc => 2
  | .rolZp _ => 5
  | .rolZpX _ => 6
  | .rolAbs _ => 6
  | .rolAbsX _ => 7
  | .rorAcc => 2
  | .rorZp _ => 5
  | .rorZpX _ => 6
  | .rorAbs _ => 6
  | .rorAbsX _ => 7
  | .bcc rel => branchCycles s (!s.flags.c) rel
  | .bcs rel => branchCycles s s.flags.c rel
  | .beq rel => branchCycles s s.flags.z rel
  | .bmi rel => branchCycles s s.flags.n rel
  | .bne rel => branchCycles s (!s.flags.z) rel
  | .bpl rel => branchCycles s (!s.flags.n) rel
  | .bvc rel => branchCycles s (!s.flags.v) rel
  | .bvs rel => branchCycles s s.flags.v rel
  | .brk => 7
  | .nop => 2
  | .rti => 6
  | .clc => 2
  | .cld => 2
  | .cli => 2
  | .clv => 2
  | .sec => 2
  | .sed => 2
  | .sei => 2
  | .decZp _ => 5
  | .decZpX _ => 6
  | .decAbs _ => 6
  | .decAbsX _ => 7
  | .dex => 2
  | .dey => 2
  | .incZp _ => 5
  | .incZpX _ => 6
  | .incAbs _ => 6
  | .incAbsX _ => 7
  | .inx => 2
  | .iny => 2
  | .jmpAbs _ => 3
  | .jmpInd _ => 5
  | .jsr _ => 6
  | .rts => 6
  | .ldaImm _ => 2
  | .ldaZp _ => 3
  | .ldaZpX _ => 4
  | .ldaAbs _ => 4
  | .ldaAbsX addr => 4 + crossing addr (eaAbsX s addr)
  | .ldaAbsY addr => 4 + crossing addr (eaAbsY s addr)
  | .ldaIndX _ => 6
  | .ldaIndY zp => 5 + crossing (zeroPagePointer s zp) (eaIndY s zp)
  | .ldxImm _ => 2
  | .ldxZp _ => 3
  | .ldxZpY _ => 4
  | .ldxAbs _ => 4
  | .ldxAbsY addr => 4 + crossing addr (eaAbsY s addr)
  | .ldyImm _ => 2
  | .ldyZp _ => 3
  | .ldyZpX _ => 4
  | .ldyAbs _ => 4
  | .ldyAbsX addr => 4 + crossing addr (eaAbsX s addr)
  | .staZp _ => 3
  | .staZpX _ => 4
  | .staAbs _ => 4
  | .staAbsX _ => 5
  | .staAbsY _ => 5
  | .staIndX _ => 6
  | .staIndY _ => 6
  | .stxZp _ => 3
  | .stxZpY _ => 4
  | .stxAbs _ => 4
  | .styZp _ => 3
  | .styZpX _ => 4
  | .styAbs _ => 4
  | .pha => 3
  | .php => 3
  | .pla => 4
  | .plp => 4
  | .tax => 2
  | .tay => 2
  | .tsx => 2
  | .txa => 2
  | .txs => 2
  | .tya => 2

end Sys2Proof.Machine
end

