-- ==== Sys2Proof/Safety.lean ====
section
/-! DEFINITION. The terms in which claims about the machine are stated: which mnemonic an instruction has, where it stores,
the invariant, and when a run has ended (spec/70_reset_and_hazards.md R236). -/

namespace Sys2Proof.Safety

open Sys2Proof.Machine Sys2Proof.Config

/-- The 56 mnemonics (spec/30_encoding.md R51). -/
inductive Mnemonic where
  | ADC | SBC | CMP | CPX | CPY
  | AND | BIT | EOR | ORA
  | ASL | LSR | ROL | ROR
  | BCC | BCS | BEQ | BMI | BNE | BPL | BVC | BVS
  | BRK | NOP | RTI
  | CLC | CLD | CLI | CLV | SEC | SED | SEI
  | DEC | DEX | DEY | INC | INX | INY
  | JMP | JSR | RTS
  | LDA | LDX | LDY | STA | STX | STY
  | PHA | PHP | PLA | PLP | TAX | TAY | TSX | TXA | TXS | TYA
deriving DecidableEq, Repr

/-- The mnemonic of an instruction, whatever its addressing mode. -/
def mnemonic : Instr → Mnemonic
  | .adcImm _ | .adcZp _ | .adcZpX _ | .adcAbs _ | .adcAbsX _ | .adcAbsY _ | .adcIndX _ | .adcIndY _ => .ADC
  | .sbcImm _ | .sbcZp _ | .sbcZpX _ | .sbcAbs _ | .sbcAbsX _ | .sbcAbsY _ | .sbcIndX _ | .sbcIndY _ => .SBC
  | .cmpImm _ | .cmpZp _ | .cmpZpX _ | .cmpAbs _ | .cmpAbsX _ | .cmpAbsY _ | .cmpIndX _ | .cmpIndY _ => .CMP
  | .cpxImm _ | .cpxZp _ | .cpxAbs _ => .CPX
  | .cpyImm _ | .cpyZp _ | .cpyAbs _ => .CPY
  | .andImm _ | .andZp _ | .andZpX _ | .andAbs _ | .andAbsX _ | .andAbsY _ | .andIndX _ | .andIndY _ => .AND
  | .bitZp _ | .bitAbs _ => .BIT
  | .eorImm _ | .eorZp _ | .eorZpX _ | .eorAbs _ | .eorAbsX _ | .eorAbsY _ | .eorIndX _ | .eorIndY _ => .EOR
  | .oraImm _ | .oraZp _ | .oraZpX _ | .oraAbs _ | .oraAbsX _ | .oraAbsY _ | .oraIndX _ | .oraIndY _ => .ORA
  | .aslAcc | .aslZp _ | .aslZpX _ | .aslAbs _ | .aslAbsX _ => .ASL
  | .lsrAcc | .lsrZp _ | .lsrZpX _ | .lsrAbs _ | .lsrAbsX _ => .LSR
  | .rolAcc | .rolZp _ | .rolZpX _ | .rolAbs _ | .rolAbsX _ => .ROL
  | .rorAcc | .rorZp _ | .rorZpX _ | .rorAbs _ | .rorAbsX _ => .ROR
  | .bcc _ => .BCC
  | .bcs _ => .BCS
  | .beq _ => .BEQ
  | .bmi _ => .BMI
  | .bne _ => .BNE
  | .bpl _ => .BPL
  | .bvc _ => .BVC
  | .bvs _ => .BVS
  | .brk => .BRK
  | .nop => .NOP
  | .rti => .RTI
  | .clc => .CLC
  | .cld => .CLD
  | .cli => .CLI
  | .clv => .CLV
  | .sec => .SEC
  | .sed => .SED
  | .sei => .SEI
  | .decZp _ | .decZpX _ | .decAbs _ | .decAbsX _ => .DEC
  | .dex => .DEX
  | .dey => .DEY
  | .incZp _ | .incZpX _ | .incAbs _ | .incAbsX _ => .INC
  | .inx => .INX
  | .iny => .INY
  | .jmpAbs _ | .jmpInd _ => .JMP
  | .jsr _ => .JSR
  | .rts => .RTS
  | .ldaImm _ | .ldaZp _ | .ldaZpX _ | .ldaAbs _ | .ldaAbsX _ | .ldaAbsY _ | .ldaIndX _ | .ldaIndY _ => .LDA
  | .ldxImm _ | .ldxZp _ | .ldxZpY _ | .ldxAbs _ | .ldxAbsY _ => .LDX
  | .ldyImm _ | .ldyZp _ | .ldyZpX _ | .ldyAbs _ | .ldyAbsX _ => .LDY
  | .staZp _ | .staZpX _ | .staAbs _ | .staAbsX _ | .staAbsY _ | .staIndX _ | .staIndY _ => .STA
  | .stxZp _ | .stxZpY _ | .stxAbs _ => .STX
  | .styZp _ | .styZpX _ | .styAbs _ => .STY
  | .pha => .PHA
  | .php => .PHP
  | .pla => .PLA
  | .plp => .PLP
  | .tax => .TAX
  | .tay => .TAY
  | .tsx => .TSX
  | .txa => .TXA
  | .txs => .TXS
  | .tya => .TYA

/-- The addresses that an instruction may store to: the effective address of a store or of a memory read-modify-write, and
the stack's bytes for the pushes of PHA, PHP, JSR and BRK. -/
def storeAddrs (s : State) : Instr → List Word
  | .aslZp zp => [eaZp zp]
  | .aslZpX zp => [eaZpX s zp]
  | .aslAbs addr => [eaAbs addr]
  | .aslAbsX addr => [eaAbsX s addr]
  | .lsrZp zp => [eaZp zp]
  | .lsrZpX zp => [eaZpX s zp]
  | .lsrAbs addr => [eaAbs addr]
  | .lsrAbsX addr => [eaAbsX s addr]
  | .rolZp zp => [eaZp zp]
  | .rolZpX zp => [eaZpX s zp]
  | .rolAbs addr => [eaAbs addr]
  | .rolAbsX addr => [eaAbsX s addr]
  | .rorZp zp => [eaZp zp]
  | .rorZpX zp => [eaZpX s zp]
  | .rorAbs addr => [eaAbs addr]
  | .rorAbsX addr => [eaAbsX s addr]
  | .decZp zp => [eaZp zp]
  | .decZpX zp => [eaZpX s zp]
  | .decAbs addr => [eaAbs addr]
  | .decAbsX addr => [eaAbsX s addr]
  | .incZp zp => [eaZp zp]
  | .incZpX zp => [eaZpX s zp]
  | .incAbs addr => [eaAbs addr]
  | .incAbsX addr => [eaAbsX s addr]
  | .staZp zp => [eaZp zp]
  | .staZpX zp => [eaZpX s zp]
  | .staAbs addr => [eaAbs addr]
  | .staAbsX addr => [eaAbsX s addr]
  | .staAbsY addr => [eaAbsY s addr]
  | .staIndX zp => [eaIndX s zp]
  | .staIndY zp => [eaIndY s zp]
  | .stxZp zp => [eaZp zp]
  | .stxZpY zp => [eaZpY s zp]
  | .stxAbs addr => [eaAbs addr]
  | .styZp zp => [eaZp zp]
  | .styZpX zp => [eaZpX s zp]
  | .styAbs addr => [eaAbs addr]
  | .pha | .php => [stackAddr s.sp]
  | .jsr _ => [stackAddr s.sp, stackAddr (s.sp - 1)]
  | .brk => [stackAddr s.sp, stackAddr (s.sp - 1), stackAddr (s.sp - 1 - 1)]
  | .adcImm _ | .adcZp _ | .adcZpX _ | .adcAbs _ | .adcAbsX _ | .adcAbsY _ | .adcIndX _ | .adcIndY _
  | .sbcImm _ | .sbcZp _ | .sbcZpX _ | .sbcAbs _ | .sbcAbsX _ | .sbcAbsY _ | .sbcIndX _ | .sbcIndY _
  | .cmpImm _ | .cmpZp _ | .cmpZpX _ | .cmpAbs _ | .cmpAbsX _ | .cmpAbsY _ | .cmpIndX _ | .cmpIndY _
  | .cpxImm _ | .cpxZp _ | .cpxAbs _ | .cpyImm _ | .cpyZp _ | .cpyAbs _ | .andImm _ | .andZp _ | .andZpX _
  | .andAbs _ | .andAbsX _ | .andAbsY _ | .andIndX _ | .andIndY _ | .bitZp _ | .bitAbs _ | .eorImm _ | .eorZp _
  | .eorZpX _ | .eorAbs _ | .eorAbsX _ | .eorAbsY _ | .eorIndX _ | .eorIndY _ | .oraImm _ | .oraZp _
  | .oraZpX _ | .oraAbs _ | .oraAbsX _ | .oraAbsY _ | .oraIndX _ | .oraIndY _ | .aslAcc | .lsrAcc | .rolAcc
  | .rorAcc | .bcc _ | .bcs _ | .beq _ | .bmi _ | .bne _ | .bpl _ | .bvc _ | .bvs _ | .nop | .rti | .clc | .cld
  | .cli | .clv | .sec | .sed | .sei | .dex | .dey | .inx | .iny | .jmpAbs _ | .jmpInd _ | .rts | .ldaImm _
  | .ldaZp _ | .ldaZpX _ | .ldaAbs _ | .ldaAbsX _ | .ldaAbsY _ | .ldaIndX _ | .ldaIndY _ | .ldxImm _ | .ldxZp _
  | .ldxZpY _ | .ldxAbs _ | .ldxAbsY _ | .ldyImm _ | .ldyZp _ | .ldyZpX _ | .ldyAbs _ | .ldyAbsX _ | .pla
  | .plp | .tax | .tay | .tsx | .txa | .txs | .tya => []

/-- The invariant that every step keeps: memory is in its canonical form, and the platform's parameters are `p`. -/
def Inv (p : Params) (s : State) : Prop := s.mem.wf = true ∧ s.params = p

/-- Every address of the stack page is RAM: what software needs of the platform to use the stack at all. -/
def StackIsRam (s : State) : Prop := ∀ sp : Byte, s.kindAt (stackAddr sp) = .ram

/-- The next step executes an instruction whose opcode byte is undefined: the one way a run goes outside the spec (R67). -/
def AtUndefinedOpcode (s : State) : Prop := s.boundary = .execute ∧ s.beginStep.fetchInstr = none

/-- The end of a run (R236): the core is about to execute a JMP Absolute to its own address, and takes no interrupt at
this boundary. "THIS DEFINITION SAYS NOTHING OF THE CHIP". Log 24. -/
def EndOfRun (s : State) : Prop := s.boundary = .execute ∧ s.beginStep.fetchInstr = some (.jmpAbs s.pc)

end Sys2Proof.Safety
end

