-- ==== Sys2Proof/Certificates/Slice0/Obligations.lean ====
section
/-! DEFINITION. The statements for the provers, from the numbered rules of spec/. Each says what an instruction or the
machine does; the notions they share stand first. -/

namespace Sys2Proof.Statements

open Sys2Proof Sys2Proof.Machine Sys2Proof.Config Sys2Proof.Safety

/-- Instruction `i` has this opcode byte, this length in bytes and these cycles (spec/opcode_table.json), and executing it in
`s` answers the next state `t`. -/
def Runs (s : State) (i : Instr) (opcode : Byte) (len cyc : Nat) (t : State) : Prop :=
  (encode i).head? = some opcode ∧ (encode i).length = len ∧ cycles s i = cyc ∧ exec i s = .next t

/-- Flags with Z and N from a result, the others as they are (spec/10_state.md R26). -/
def nz (f : Flags) (v : Byte) : Flags := { f with z := decide (v = 0), n := v.getLsbD 7 }

/-- Flags after a compare of `reg` with `m` (spec/40_arithmetic_compare.md R102). -/
def compared (f : Flags) (reg m : Byte) : Flags :=
  { f with c := decide (m.toNat ≤ reg.toNat), z := decide (reg = m), n := (reg - m).getLsbD 7 }

/-- An instruction with the eight modes of LDA runs in each of them to `t` of the operand and the next address, with the
lengths and cycles of spec/70_reset_and_hazards.md R234. A mode is given as its constructor and its opcode byte. -/
def EightModes (s : State) (t : Byte → Word → State) (imm zp zpX : (Byte → Instr) × Byte)
    (abs absX absY : (Word → Instr) × Byte) (indX indY : (Byte → Instr) × Byte) : Prop :=
  ∀ (b : Byte) (w : Word),
    Runs s (imm.1 b) imm.2 2 2 (t b (s.pc + 2))
    ∧ Runs s (zp.1 b) zp.2 2 3 (t (s.operand (eaZp b)) (s.pc + 2))
    ∧ Runs s (zpX.1 b) zpX.2 2 4 (t (s.operand (eaZpX s b)) (s.pc + 2))
    ∧ Runs s (abs.1 w) abs.2 3 4 (t (s.operand (eaAbs w)) (s.pc + 3))
    ∧ Runs s (absX.1 w) absX.2 3 (4 + crossing w (eaAbsX s w)) (t (s.operand (eaAbsX s w)) (s.pc + 3))
    ∧ Runs s (absY.1 w) absY.2 3 (4 + crossing w (eaAbsY s w)) (t (s.operand (eaAbsY s w)) (s.pc + 3))
    ∧ Runs s (indX.1 b) indX.2 2 6 (t (s.operand (eaIndX s b)) (s.pc + 2))
    ∧ Runs s (indY.1 b) indY.2 2 (5 + crossing (zeroPagePointer s b) (eaIndY s b))
        (t (s.operand (eaIndY s b)) (s.pc + 2))

/-- The same for the three modes of CPX and CPY. -/
def ThreeModes (s : State) (t : Byte → Word → State) (imm zp : (Byte → Instr) × Byte) (abs : (Word → Instr) × Byte) :
    Prop :=
  ∀ (b : Byte) (w : Word),
    Runs s (imm.1 b) imm.2 2 2 (t b (s.pc + 2))
    ∧ Runs s (zp.1 b) zp.2 2 3 (t (s.operand (eaZp b)) (s.pc + 2))
    ∧ Runs s (abs.1 w) abs.2 3 4 (t (s.operand (eaAbs w)) (s.pc + 3))

/-- The four memory modes of a read-modify-write instruction: `t` of the effective address and the next address. -/
def MemoryModes (s : State) (t : Word → Word → State) (zp zpX : (Byte → Instr) × Byte)
    (abs absX : (Word → Instr) × Byte) : Prop :=
  ∀ (b : Byte) (w : Word),
    Runs s (zp.1 b) zp.2 2 5 (t (eaZp b) (s.pc + 2))
    ∧ Runs s (zpX.1 b) zpX.2 2 6 (t (eaZpX s b) (s.pc + 2))
    ∧ Runs s (abs.1 w) abs.2 3 6 (t (eaAbs w) (s.pc + 3))
    ∧ Runs s (absX.1 w) absX.2 3 7 (t (eaAbsX s w) (s.pc + 3))

/-- A shift in its five modes (spec/42_shifts.md R124): `r` gives the result and `c` the new carry of the value shifted, which
is A or the byte at the effective address. -/
def ShiftModes (s : State) (r : Byte → Byte) (c : Byte → Bool) (acc : Instr × Byte) (zp zpX : (Byte → Instr) × Byte)
    (abs absX : (Word → Instr) × Byte) : Prop :=
  Runs s acc.1 acc.2 1 2 { s with a := r s.a, flags := { nz s.flags (r s.a) with c := c s.a }, pc := s.pc + 1 }
  ∧ MemoryModes s
      (fun a next =>
        let v := s.operand a
        { s.write a (r v) with flags := { nz s.flags (r v) with c := c v }, pc := next })
      zp zpX abs absX

/-- A branch taken when `cond` holds (spec/43_branches.md R130), the target as the address of the next instruction plus the
signed displacement, modulo 65536. -/
def BranchesWhen (s : State) (rel : Byte) (i : Instr) (opcode : Byte) (cond : Prop) : Prop :=
  let next := s.pc + 2
  let target := BitVec.ofInt 16 (next.toNat + rel.toInt)
  (cond → Runs s i opcode 2 (if target.toNat / 256 = next.toNat / 256 then 3 else 4) { s with pc := target })
  ∧ (¬ cond → Runs s i opcode 2 2 { s with pc := next })

/-- Flags loaded from a byte of the stack (spec/10_state.md R18). -/
def fromStack (m : BModel) (f : Flags) (p : Byte) : Flags :=
  { c := p.getLsbD 0, z := p.getLsbD 1, i := p.getLsbD 2, d := p.getLsbD 3
    b := if m = .latch then p.getLsbD 4 else f.b
    v := p.getLsbD 6, n := p.getLsbD 7 }

/-- The byte `p` is `N : V : 1 : b4 : D : I : Z : C` (spec/10_state.md R17). -/
def Packs (p : Byte) (f : Flags) (b4 : Bool) : Prop :=
  p.getLsbD 0 = f.c ∧ p.getLsbD 1 = f.z ∧ p.getLsbD 2 = f.i ∧ p.getLsbD 3 = f.d ∧ p.getLsbD 4 = b4
    ∧ p.getLsbD 5 = true ∧ p.getLsbD 6 = f.v ∧ p.getLsbD 7 = f.n

/-- An instruction executed a number of times in a row. -/
def execTimes (i : Instr) : Nat → State → Result
  | 0, s => .next s
  | k + 1, s =>
    match exec i s with
    | .next t => execTimes i k t
    | .fault r => .fault r
    | .refused r => .refused r

/-- The same state with another D. -/
def withD (s : State) (d : Bool) : State := { s with flags := { s.flags with d := d } }

/-- The 105 opcode bytes that spec/30_encoding.md R67 lists. -/
def undefinedOpcodes : List Byte :=
  [ 0x02, 0x03, 0x04, 0x07, 0x0B, 0x0C, 0x0F, 0x12, 0x13, 0x14, 0x17, 0x1A, 0x1B, 0x1C,
    0x1F, 0x22, 0x23, 0x27, 0x2B, 0x2F, 0x32, 0x33, 0x34, 0x37, 0x3A, 0x3B, 0x3C, 0x3F,
    0x42, 0x43, 0x44, 0x47, 0x4B, 0x4F, 0x52, 0x53, 0x54, 0x57, 0x5A, 0x5B, 0x5C, 0x5F,
    0x62, 0x63, 0x64, 0x67, 0x6B, 0x6F, 0x72, 0x73, 0x74, 0x77, 0x7A, 0x7B, 0x7C, 0x7F,
    0x80, 0x82, 0x83, 0x87, 0x89, 0x8B, 0x8F, 0x92, 0x93, 0x97, 0x9B, 0x9C, 0x9E, 0x9F,
    0xA3, 0xA7, 0xAB, 0xAF, 0xB2, 0xB3, 0xB7, 0xBB, 0xBF, 0xC2, 0xC3, 0xC7, 0xCB, 0xCF,
    0xD2, 0xD3, 0xD4, 0xD7, 0xDA, 0xDB, 0xDC, 0xDF, 0xE2, 0xE3, 0xE7, 0xEB, 0xEF, 0xF2,
    0xF3, 0xF4, 0xF7, 0xFA, 0xFB, 0xFC, 0xFF ]

end Sys2Proof.Statements

open Sys2Proof Sys2Proof.Machine Sys2Proof.Config Sys2Proof.Safety Sys2Proof.Statements

/-- ADC completes in all eight modes: the carry addition with D = 0, the open decimal function with D = 1. Rests on
40_arithmetic_compare.md, Decimal mode and ADC - Add with Carry (that ADC runs with D = 1, with the open
function as its result, is the model's choice of the two ways the spec gives: log 5; the formula of V is marked
derived by the spec: log 22). -/
def Obligations.AdcAddsWithCarry : Prop :=
  ∀ s : State,
    (s.flags.d = false →
      EightModes s
        (fun m next =>
          let t := addBinary s.a m s.flags.c
          { s with a := t.r, flags := { nz s.flags t.r with c := t.c, v := t.v }, pc := next })
        (.adcImm, 0x69) (.adcZp, 0x65) (.adcZpX, 0x75) (.adcAbs, 0x6D) (.adcAbsX, 0x7D) (.adcAbsY, 0x79)
        (.adcIndX, 0x61) (.adcIndY, 0x71))
    ∧ (s.flags.d = true →
      EightModes s
        (fun m next =>
          let t := decimalAdc s.a m s.flags.c
          { s with a := t.a, flags := { s.flags with c := t.c, z := t.z, v := t.v, n := t.n }, pc := next })
        (.adcImm, 0x69) (.adcZp, 0x65) (.adcZpX, 0x75) (.adcAbs, 0x6D) (.adcAbsX, 0x7D) (.adcAbsY, 0x79)
        (.adcIndX, 0x61) (.adcIndY, 0x71))

/-- SBC completes in all eight modes: AddBinary of A and the complement of M with D = 0, the open function with D =
1. Rests on 40_arithmetic_compare.md, Decimal mode and SBC - Subtract with Carry (that SBC runs with D = 1, with
the open function as its result, is the model's choice of the two ways the spec gives: log 5; the identity with
AddBinary of the complement is marked derived by the spec: log 22). -/
def Obligations.SbcSubtractsWithBorrow : Prop :=
  ∀ s : State,
    (s.flags.d = false →
      EightModes s
        (fun m next =>
          let t := addBinary s.a (m ^^^ 0xFF) s.flags.c
          { s with a := t.r, flags := { nz s.flags t.r with c := t.c, v := t.v }, pc := next })
        (.sbcImm, 0xE9) (.sbcZp, 0xE5) (.sbcZpX, 0xF5) (.sbcAbs, 0xED) (.sbcAbsX, 0xFD) (.sbcAbsY, 0xF9)
        (.sbcIndX, 0xE1) (.sbcIndY, 0xF1))
    ∧ (s.flags.d = true →
      EightModes s
        (fun m next =>
          let t := decimalSbc s.a m s.flags.c
          { s with a := t.a, flags := { s.flags with c := t.c, z := t.z, v := t.v, n := t.n }, pc := next })
        (.sbcImm, 0xE9) (.sbcZp, 0xE5) (.sbcZpX, 0xF5) (.sbcAbs, 0xED) (.sbcAbsX, 0xFD) (.sbcAbsY, 0xF9)
        (.sbcIndX, 0xE1) (.sbcIndY, 0xF1))

/-- AddBinary: the sum modulo 256, C for the unsigned overflow, V for the signed overflow, by bits and by value.
Rests on 40_arithmetic_compare.md, Integer arithmetic laws (AddBinary; the formula of V is marked derived by the
spec; log 22). -/
def Obligations.CarryAndOverflowOfAddition : Prop :=
  ∀ (a m : Byte) (c : Bool),
    (addBinary a m c).r.toNat = (a.toNat + m.toNat + c.toNat) % 256
    ∧ ((addBinary a m c).c = true ↔ 256 ≤ a.toNat + m.toNat + c.toNat)
    ∧ ((addBinary a m c).v = true ↔
        a.getLsbD 7 = m.getLsbD 7 ∧ (addBinary a m c).r.getLsbD 7 ≠ a.getLsbD 7)
    ∧ ((addBinary a m c).v = true ↔
        a.toInt + m.toInt + c.toNat < -128 ∨ 127 < a.toInt + m.toInt + c.toNat)

/-- SBC's addition of the complement is A - M - (1 - C): carry clear exactly on a borrow, V exactly on a signed
overflow. Rests on 40_arithmetic_compare.md, SBC - Subtract with Carry (the identity with AddBinary is marked
derived by the spec; log 22). -/
def Obligations.SubtractionByComplement : Prop :=
  ∀ (a m : Byte) (c : Bool),
    ((addBinary a (m ^^^ 0xFF) c).r.toNat : Int)
        = ((a.toNat : Int) - m.toNat - (1 - c.toNat)) % 256
    ∧ ((addBinary a (m ^^^ 0xFF) c).c = true ↔ 0 ≤ (a.toNat : Int) - m.toNat - (1 - c.toNat))
    ∧ ((addBinary a (m ^^^ 0xFF) c).v = true ↔
        a.toInt - m.toInt - (1 - c.toNat) < -128 ∨ 127 < a.toInt - m.toInt - (1 - c.toNat))

/-- CMP, CPX and CPY complete in every mode and write C, Z and N only. Rests on 40_arithmetic_compare.md, CMP, CPX,
CPY (that the comparison is unsigned is marked general knowledge; log 22). -/
def Obligations.CompareSetsCarryZeroNegative : Prop :=
  ∀ s : State,
    EightModes s (fun m next => { s with flags := compared s.flags s.a m, pc := next })
      (.cmpImm, 0xC9) (.cmpZp, 0xC5) (.cmpZpX, 0xD5) (.cmpAbs, 0xCD) (.cmpAbsX, 0xDD) (.cmpAbsY, 0xD9)
      (.cmpIndX, 0xC1) (.cmpIndY, 0xD1)
    ∧ ThreeModes s (fun m next => { s with flags := compared s.flags s.x m, pc := next })
      (.cpxImm, 0xE0) (.cpxZp, 0xE4) (.cpxAbs, 0xEC)
    ∧ ThreeModes s (fun m next => { s with flags := compared s.flags s.y m, pc := next })
      (.cpyImm, 0xC0) (.cpyZp, 0xC4) (.cpyAbs, 0xCC)

/-- AND, EOR and ORA complete in all eight modes: the bitwise result in A, Z and N from the new A. Rules R110, R112,
R113. -/
def Obligations.LogicalInstructionsWriteA : Prop :=
  ∀ s : State,
    EightModes s (fun m next => { s with a := s.a &&& m, flags := nz s.flags (s.a &&& m), pc := next })
      (.andImm, 0x29) (.andZp, 0x25) (.andZpX, 0x35) (.andAbs, 0x2D) (.andAbsX, 0x3D) (.andAbsY, 0x39)
      (.andIndX, 0x21) (.andIndY, 0x31)
    ∧ EightModes s (fun m next => { s with a := s.a ^^^ m, flags := nz s.flags (s.a ^^^ m), pc := next })
      (.eorImm, 0x49) (.eorZp, 0x45) (.eorZpX, 0x55) (.eorAbs, 0x4D) (.eorAbsX, 0x5D) (.eorAbsY, 0x59)
      (.eorIndX, 0x41) (.eorIndY, 0x51)
    ∧ EightModes s (fun m next => { s with a := s.a ||| m, flags := nz s.flags (s.a ||| m), pc := next })
      (.oraImm, 0x09) (.oraZp, 0x05) (.oraZpX, 0x15) (.oraAbs, 0x0D) (.oraAbsX, 0x1D) (.oraAbsY, 0x19)
      (.oraIndX, 0x01) (.oraIndY, 0x11)

/-- BIT completes in both modes: Z from A & M, N and V from bits 7 and 6 of M, nothing else written. Rule R111. -/
def Obligations.BitTestsMemory : Prop :=
  ∀ (s : State) (b : Byte) (w : Word),
    let t := fun (m : Byte) (next : Word) =>
      { s with
        flags := { s.flags with z := decide (s.a &&& m = 0), n := m.getLsbD 7, v := m.getLsbD 6 }
        pc := next }
    Runs s (.bitZp b) 0x24 2 3 (t (s.operand (eaZp b)) (s.pc + 2))
    ∧ Runs s (.bitAbs w) 0x2C 3 4 (t (s.operand (eaAbs w)) (s.pc + 3))

/-- ASL and ROL complete in all five modes: twice the value modulo 256 (ROL: plus C), C from old bit 7, Z and N from
the result. Rests on 42_shifts.md, ASL - Arithmetic Shift Left and ROL - Rotate Left (Z from the result, not
from A, is the spec's resolution of 90_conflicts.md C2: log 22). -/
def Obligations.LeftShiftsAndRotates : Prop :=
  ∀ s : State,
    ShiftModes s (fun v => BitVec.ofNat 8 (v.toNat * 2)) (fun v => v.getLsbD 7)
      (.aslAcc, 0x0A) (.aslZp, 0x06) (.aslZpX, 0x16) (.aslAbs, 0x0E) (.aslAbsX, 0x1E)
    ∧ ShiftModes s (fun v => BitVec.ofNat 8 (v.toNat * 2 + s.flags.c.toNat)) (fun v => v.getLsbD 7)
      (.rolAcc, 0x2A) (.rolZp, 0x26) (.rolZpX, 0x36) (.rolAbs, 0x2E) (.rolAbsX, 0x3E)

/-- LSR completes in all five modes: half the value, C from old bit 0, Z from the result, N always 0. Rule R121. -/
def Obligations.LogicalShiftRightHalves : Prop :=
  ∀ s : State,
    ShiftModes s (fun v => BitVec.ofNat 8 (v.toNat / 2)) (fun v => v.getLsbD 0)
      (.lsrAcc, 0x4A) (.lsrZp, 0x46) (.lsrZpX, 0x56) (.lsrAbs, 0x4E) (.lsrAbsX, 0x5E)
    ∧ ∀ v : Byte, (BitVec.ofNat 8 (v.toNat / 2)).getLsbD 7 = false

/-- ROR completes in all five modes: the old carry above half the value, C from old bit 0. Rests on 42_shifts.md,
ROR - Rotate Right (two of its opcode bytes are recovered: 90_conflicts.md C1, log 23; Z from the result, not
from A, is the spec's resolution of 90_conflicts.md C2: log 22). -/
def Obligations.RotateRightThroughCarry : Prop :=
  ∀ s : State,
    ShiftModes s (fun v => BitVec.ofNat 8 (s.flags.c.toNat * 128 + v.toNat / 2)) (fun v => v.getLsbD 0)
      (.rorAcc, 0x6A) (.rorZp, 0x66) (.rorZpX, 0x76) (.rorAbs, 0x6E) (.rorAbsX, 0x7E)

/-- Nine ROL A, and nine ROR A, bring A and the carry back. Rests on 42_shifts.md, ROL and ROR ("nine ROLs restore v
and C"). -/
def Obligations.NineRotationsRestore : Prop :=
  ∀ s : State, ∀ i ∈ [Instr.rolAcc, Instr.rorAcc], ∃ t, execTimes i 9 s = .next t
    ∧ t.a = s.a ∧ t.flags.c = s.flags.c ∧ t.pc = s.pc + 9
    ∧ t.x = s.x ∧ t.y = s.y ∧ t.sp = s.sp ∧ t.mem = s.mem
    ∧ t.flags.d = s.flags.d ∧ t.flags.i = s.flags.i ∧ t.flags.b = s.flags.b ∧ t.flags.v = s.flags.v

/-- The eight branches complete: taken to pc + 2 plus the signed displacement modulo 65536 by their flag, else past
the branch. Rests on 43_branches.md, sections on BCC to BVS (that the displacement is signed and relative to the
next instruction is marked general knowledge: log 20); 70_reset_and_hazards.md section 4 (the reading of a
branch's cycles as 2, 3 and 4 is marked general knowledge: log 14). -/
def Obligations.BranchesByDisplacement : Prop :=
  ∀ (s : State) (rel : Byte),
    BranchesWhen s rel (.bcc rel) 0x90 (s.flags.c = false) ∧ BranchesWhen s rel (.bcs rel) 0xB0 (s.flags.c = true)
    ∧ BranchesWhen s rel (.beq rel) 0xF0 (s.flags.z = true) ∧ BranchesWhen s rel (.bmi rel) 0x30 (s.flags.n = true)
    ∧ BranchesWhen s rel (.bne rel) 0xD0 (s.flags.z = false) ∧ BranchesWhen s rel (.bpl rel) 0x10 (s.flags.n = false)
    ∧ BranchesWhen s rel (.bvc rel) 0x50 (s.flags.v = false) ∧ BranchesWhen s rel (.bvs rel) 0x70 (s.flags.v = true)

/-- BRK completes: interrupt entry of kind BRK with the return address pc + 2. Rests on 44_system.md, BRK - Force
Interrupt (the return address, B before the push and I are decisions of the spec; log 4, log 19). -/
def Obligations.BrkEntersTheHandler : Prop :=
  ∀ s : State, Runs s .brk 0x00 1 7 (s.interruptEntry .brk (s.pc + 2))

/-- RTI completes: all the flags from the first pulled byte, the pc from the next two, nothing added. Rests on
44_system.md, RTI - Return from Interrupt (the order of the two pc bytes is marked general knowledge: log 18;
that nothing is added to the pulled pc is marked derived by the spec; which bit of the pulled byte loads which
flag is marked general knowledge: log 17). -/
def Obligations.RtiPullsStatusThenPc : Prop :=
  ∀ s : State,
    Runs s .rti 0x40 1 6
      { s with
        sp := s.sp + 3
        flags := fromStack s.params.bModel s.flags (s.read .stack (stackAddr (s.sp + 1)))
        pc := wordOf (s.read .stack (stackAddr (s.sp + 3))) (s.read .stack (stackAddr (s.sp + 2))) }

/-- NOP completes and changes nothing but the pc. Rule R141. -/
def Obligations.NopOnlyAdvances : Prop :=
  ∀ s : State, Runs s .nop 0xEA 1 2 { s with pc := s.pc + 1 }

/-- CLC, CLD, CLI, CLV, SEC, SED and SEI complete and write their one flag; CLI and SEI note the old I in the
model's own prevI. Rests on 45_flags.md, CLC to SEI (that CLI and SEI note the old I in prevI is the model's
own: log 8). -/
def Obligations.FlagInstructionsWriteOneFlag : Prop :=
  ∀ s : State,
    Runs s .clc 0x18 1 2 { s with flags := { s.flags with c := false }, pc := s.pc + 1 }
    ∧ Runs s .cld 0xD8 1 2 { s with flags := { s.flags with d := false }, pc := s.pc + 1 }
    ∧ Runs s .cli 0x58 1 2 { s with flags := { s.flags with i := false }, pc := s.pc + 1, prevI := some s.flags.i }
    ∧ Runs s .clv 0xB8 1 2 { s with flags := { s.flags with v := false }, pc := s.pc + 1 }
    ∧ Runs s .sec 0x38 1 2 { s with flags := { s.flags with c := true }, pc := s.pc + 1 }
    ∧ Runs s .sed 0xF8 1 2 { s with flags := { s.flags with d := true }, pc := s.pc + 1 }
    ∧ Runs s .sei 0x78 1 2 { s with flags := { s.flags with i := true }, pc := s.pc + 1, prevI := some s.flags.i }

/-- INC and DEC complete in all four modes: the byte at the effective address plus or minus one, Z and N from the
result. Rests on 46_incdec.md, DEC - Decrement Memory and INC - Increment Memory (the wrap is marked derived by
the spec). -/
def Obligations.MemoryCountsByOne : Prop :=
  ∀ s : State,
    MemoryModes s
      (fun a next => { s.write a (s.operand a + 1) with flags := nz s.flags (s.operand a + 1), pc := next })
      (.incZp, 0xE6) (.incZpX, 0xF6) (.incAbs, 0xEE) (.incAbsX, 0xFE)
    ∧ MemoryModes s
      (fun a next => { s.write a (s.operand a - 1) with flags := nz s.flags (s.operand a - 1), pc := next })
      (.decZp, 0xC6) (.decZpX, 0xD6) (.decAbs, 0xCE) (.decAbsX, 0xDE)

/-- INX, INY, DEX and DEY complete: the register plus or minus one modulo 256, Z and N from it. Rests on
46_incdec.md, DEX, DEY, INX, INY (the wrap is marked derived by the spec). -/
def Obligations.IndexRegistersCountByOne : Prop :=
  ∀ s : State,
    Runs s .inx 0xE8 1 2 { s with x := s.x + 1, flags := nz s.flags (s.x + 1), pc := s.pc + 1 }
    ∧ Runs s .iny 0xC8 1 2 { s with y := s.y + 1, flags := nz s.flags (s.y + 1), pc := s.pc + 1 }
    ∧ Runs s .dex 0xCA 1 2 { s with x := s.x - 1, flags := nz s.flags (s.x - 1), pc := s.pc + 1 }
    ∧ Runs s .dey 0x88 1 2 { s with y := s.y - 1, flags := nz s.flags (s.y - 1), pc := s.pc + 1 }

/-- JMP completes: to its operand, or through the vector at it, whose high byte comes from the same page. Rule R170. -/
def Obligations.JumpsToTheOperandOrThroughIt : Prop :=
  ∀ (s : State) (v : Word),
    Runs s (.jmpAbs v) 0x4C 3 3 { s with pc := v }
    ∧ ∀ h : Word, h.toNat = v.toNat / 256 * 256 + (v.toNat % 256 + 1) % 256 →
      Runs s (.jmpInd v) 0x6C 3 5 { s with pc := wordOf (s.read .pointer h) (s.read .pointer v) }

/-- JSR completes: pc + 2 pushed, high byte first, and the pc at the operand. Rests on 47_jumps.md, JSR - Jump to
Subroutine (the order of the pushed bytes is marked general knowledge; log 18). -/
def Obligations.CallPushesReturnPointMinusOne : Prop :=
  ∀ (s : State) (target : Word),
    Runs s (.jsr target) 0x20 3 6
      { (s.write (stackAddr s.sp) (hiByte (s.pc + 2))).write (stackAddr (s.sp - 1)) (loByte (s.pc + 2)) with
        sp := s.sp - 2, pc := target }

/-- RTS completes: the pc is the pulled address plus one, low byte pulled first. Rests on 47_jumps.md, RTS - Return
from Subroutine (the order of the pulled bytes is marked general knowledge; log 18). -/
def Obligations.ReturnAddsOne : Prop :=
  ∀ s : State,
    Runs s .rts 0x60 1 6
      { s with
        sp := s.sp + 2
        pc := wordOf (s.read .stack (stackAddr (s.sp + 2))) (s.read .stack (stackAddr (s.sp + 1))) + 1 }

/-- LDA completes in all eight modes: A is the operand, Z and N from it. Rule R180. -/
def Obligations.LdaLoadsTheAccumulator : Prop :=
  ∀ s : State,
    EightModes s (fun m next => { s with a := m, flags := nz s.flags m, pc := next })
      (.ldaImm, 0xA9) (.ldaZp, 0xA5) (.ldaZpX, 0xB5) (.ldaAbs, 0xAD) (.ldaAbsX, 0xBD) (.ldaAbsY, 0xB9)
      (.ldaIndX, 0xA1) (.ldaIndY, 0xB1)

/-- LDX and LDY complete in all five modes each: the register is the operand, Z and N from it; LDX indexes with Y,
LDY with X. Rules R181, R182. -/
def Obligations.IndexLoadsUseTheOtherIndex : Prop :=
  ∀ (s : State) (b : Byte) (w : Word),
    let tx := fun (m : Byte) (next : Word) => { s with x := m, flags := nz s.flags m, pc := next }
    let ty := fun (m : Byte) (next : Word) => { s with y := m, flags := nz s.flags m, pc := next }
    Runs s (.ldxImm b) 0xA2 2 2 (tx b (s.pc + 2))
    ∧ Runs s (.ldxZp b) 0xA6 2 3 (tx (s.operand (eaZp b)) (s.pc + 2))
    ∧ Runs s (.ldxZpY b) 0xB6 2 4 (tx (s.operand (eaZpY s b)) (s.pc + 2))
    ∧ Runs s (.ldxAbs w) 0xAE 3 4 (tx (s.operand (eaAbs w)) (s.pc + 3))
    ∧ Runs s (.ldxAbsY w) 0xBE 3 (4 + crossing w (eaAbsY s w)) (tx (s.operand (eaAbsY s w)) (s.pc + 3))
    ∧ Runs s (.ldyImm b) 0xA0 2 2 (ty b (s.pc + 2))
    ∧ Runs s (.ldyZp b) 0xA4 2 3 (ty (s.operand (eaZp b)) (s.pc + 2))
    ∧ Runs s (.ldyZpX b) 0xB4 2 4 (ty (s.operand (eaZpX s b)) (s.pc + 2))
    ∧ Runs s (.ldyAbs w) 0xAC 3 4 (ty (s.operand (eaAbs w)) (s.pc + 3))
    ∧ Runs s (.ldyAbsX w) 0xBC 3 (4 + crossing w (eaAbsX s w)) (ty (s.operand (eaAbsX s w)) (s.pc + 3))

/-- STA, STX and STY complete in every mode: the register is written to the effective address, no flag and no
register changes. Rules R183, R184, R185. -/
def Obligations.StoresWriteOneByte : Prop :=
  ∀ (s : State) (b : Byte) (w : Word),
    let t := fun (a : Word) (v : Byte) (next : Word) => { s.write a v with pc := next }
    Runs s (.staZp b) 0x85 2 3 (t (eaZp b) s.a (s.pc + 2))
    ∧ Runs s (.staZpX b) 0x95 2 4 (t (eaZpX s b) s.a (s.pc + 2))
    ∧ Runs s (.staAbs w) 0x8D 3 4 (t (eaAbs w) s.a (s.pc + 3))
    ∧ Runs s (.staAbsX w) 0x9D 3 5 (t (eaAbsX s w) s.a (s.pc + 3))
    ∧ Runs s (.staAbsY w) 0x99 3 5 (t (eaAbsY s w) s.a (s.pc + 3))
    ∧ Runs s (.staIndX b) 0x81 2 6 (t (eaIndX s b) s.a (s.pc + 2))
    ∧ Runs s (.staIndY b) 0x91 2 6 (t (eaIndY s b) s.a (s.pc + 2))
    ∧ Runs s (.stxZp b) 0x86 2 3 (t (eaZp b) s.x (s.pc + 2))
    ∧ Runs s (.stxZpY b) 0x96 2 4 (t (eaZpY s b) s.x (s.pc + 2))
    ∧ Runs s (.stxAbs w) 0x8E 3 4 (t (eaAbs w) s.x (s.pc + 3))
    ∧ Runs s (.styZp b) 0x84 2 3 (t (eaZp b) s.y (s.pc + 2))
    ∧ Runs s (.styZpX b) 0x94 2 4 (t (eaZpX s b) s.y (s.pc + 2))
    ∧ Runs s (.styAbs w) 0x8C 3 4 (t (eaAbs w) s.y (s.pc + 3))

/-- PHA and PHP complete: the byte at $0100 + S, S one less, no flag changes. Rests on 49_stack_transfer.md, PHA and
PHP (the stack's place and bit 5 of the pushed status are marked general knowledge; log 17, log 18). -/
def Obligations.PushOfAccumulatorAndStatus : Prop :=
  ∀ s : State,
    Runs s .pha 0x48 1 3 { s.write (stackAddr s.sp) s.a with sp := s.sp - 1, pc := s.pc + 1 }
    ∧ ∀ p : Byte, Packs p s.flags (match s.params.bModel with
                                   | .latch => s.flags.b
                                   | .pushedOnly => true) →
      Runs s .php 0x08 1 3 { s.write (stackAddr s.sp) p with sp := s.sp - 1, pc := s.pc + 1 }

/-- PLA and PLP complete: the byte at $0100 + (S + 1) into A with Z and N, or into the flags; S one more. Rests on
49_stack_transfer.md, PLA and PLP (the stack's place is marked general knowledge: log 18; which bit of the byte
loads which flag is marked general knowledge: log 17; that PLP notes the old I in prevI is the model's own:
log 8). -/
def Obligations.PullOfAccumulatorAndStatus : Prop :=
  ∀ s : State,
    let p := s.read .stack (stackAddr (s.sp + 1))
    Runs s .pla 0x68 1 4 { s with a := p, sp := s.sp + 1, flags := nz s.flags p, pc := s.pc + 1 }
    ∧ Runs s .plp 0x28 1 4
      { s with
        sp := s.sp + 1, flags := fromStack s.params.bModel s.flags p, prevI := some s.flags.i, pc := s.pc + 1 }

/-- TAX, TAY, TSX, TXA, TXS and TYA complete: the destination is the source; all but TXS write Z and N from it.
Rules R194, R195, R196, R197, R198, R199. -/
def Obligations.TransfersCopyRegisters : Prop :=
  ∀ s : State,
    Runs s .tax 0xAA 1 2 { s with x := s.a, flags := nz s.flags s.a, pc := s.pc + 1 }
    ∧ Runs s .tay 0xA8 1 2 { s with y := s.a, flags := nz s.flags s.a, pc := s.pc + 1 }
    ∧ Runs s .tsx 0xBA 1 2 { s with x := s.sp, flags := nz s.flags s.sp, pc := s.pc + 1 }
    ∧ Runs s .txa 0x8A 1 2 { s with a := s.x, flags := nz s.flags s.x, pc := s.pc + 1 }
    ∧ Runs s .txs 0x9A 1 2 { s with sp := s.x, pc := s.pc + 1 }
    ∧ Runs s .tya 0x98 1 2 { s with a := s.y, flags := nz s.flags s.y, pc := s.pc + 1 }

/-- The effective addresses of the direct modes as numbers: zero-page sums wrap at 256, absolute sums at 65536.
Rests on 30_encoding.md section 2, Zero Page to Absolute,Y (marked general knowledge; log 20). -/
def Obligations.DirectModesAsNumbers : Prop :=
  ∀ (s : State) (b : Byte) (w : Word),
    (eaZp b).toNat = b.toNat
    ∧ (eaZpX s b).toNat = (b.toNat + s.x.toNat) % 256 ∧ (eaZpY s b).toNat = (b.toNat + s.y.toNat) % 256
    ∧ (eaAbs w).toNat = w.toNat
    ∧ (eaAbsX s w).toNat = (w.toNat + s.x.toNat) % 65536 ∧ (eaAbsY s w).toNat = (w.toNat + s.y.toNat) % 65536

/-- The effective addresses of (Indirect,X) and (Indirect),Y as numbers: both pointer bytes in page $00. Rests on
30_encoding.md section 2, (Indirect,X) and (Indirect),Y (marked general knowledge; log 16, log 20). -/
def Obligations.IndirectModesAsNumbers : Prop :=
  ∀ (s : State) (b : Byte) (p q : Word),
    (p.toNat = (b.toNat + s.x.toNat) % 256 → q.toNat = (b.toNat + s.x.toNat + 1) % 256 →
      (eaIndX s b).toNat = (s.read .pointer q).toNat * 256 + (s.read .pointer p).toNat)
    ∧ (p.toNat = b.toNat → q.toNat = (b.toNat + 1) % 256 →
      (eaIndY s b).toNat = ((s.read .pointer q).toNat * 256 + (s.read .pointer p).toNat + s.y.toNat) % 65536)

/-- The extra cycle of Absolute,X and Absolute,Y is there exactly when the low byte plus the index reaches 256.
Rests on 30_encoding.md section 2, "Page crossed" (marked general knowledge); 70_reset_and_hazards.md section 4;
log 14. -/
def Obligations.PageCrossingCostsOneCycle : Prop :=
  ∀ (s : State) (w : Word),
    crossing w (eaAbsX s w) = (if 256 ≤ w.toNat % 256 + s.x.toNat then 1 else 0)
    ∧ crossing w (eaAbsY s w) = (if 256 ≤ w.toNat % 256 + s.y.toNat then 1 else 0)

/-- A write to RAM is read back and changes no other byte. Rule R31. -/
def Obligations.WrittenByteIsReadBack : Prop :=
  ∀ (s : State) (a : Word) (v : Byte), s.mem.wf = true → s.kindAt a = .ram →
    ∀ use : Access, (s.write a v).read use a = v ∧ s.read use a = s.mem.get a.toNat
      ∧ ∀ b : Word, b ≠ a → (s.write a v).read use b = s.read use b

/-- ROM keeps its byte, and a read of a device or an unmapped address is a free value. Rests on 20_memory.md section
3 (MEM_MAP is an open parameter; the treatment of a device and an unmapped address is the model's: log 6,
log 11). -/
def Obligations.MapDecidesWhatAnAccessDoes : Prop :=
  ∀ (s : State) (a : Word) (v : Byte) (use : Access),
    (s.kindAt a = .rom → s.read use a = s.mem.get a.toNat ∧ s.write a v = s)
    ∧ (s.kindAt a = .device → s.read use a = openByte s.draws use a ∧ s.write a v = s)
    ∧ (s.kindAt a = .unmapped → s.read use a = openByte s.draws use a ∧ s.write a v = s)

/-- MemRead16 is little-endian and its second byte is at the next address modulo 65536. Rests on 20_memory.md
section 2 (all but JMP Indirect is marked general knowledge; log 16). -/
def Obligations.WordsAreLittleEndian : Prop :=
  ∀ (s : State) (use : Access) (a b : Word), b.toNat = (a.toNat + 1) % 65536 →
    (s.readWord use a).toNat = (s.read use b).toNat * 256 + (s.read use a).toNat

/-- Push stores at 256 + S and then decrements S, Pull increments S and then reads at 256 + S, both modulo 256.
Rests on 20_memory.md section 3, Push and Pull (marked general knowledge; log 18). -/
def Obligations.StackLivesInPageOne : Prop :=
  ∀ (s : State) (v : Byte) (a : Word),
    (a.toNat = 256 + s.sp.toNat →
      s.push v = { s.write a v with sp := BitVec.ofNat 8 (s.sp.toNat + 255) })
    ∧ (a.toNat = 256 + (s.sp.toNat + 1) % 256 →
      s.pullByte = s.read .stack a ∧ s.afterPull = { s with sp := BitVec.ofNat 8 (s.sp.toNat + 1) })

/-- PackP puts N V 1 b4 D I Z C in bits 7 to 0, and UnpackP of it gives the flags back. Rests on 10_state.md section
4, the layout of P (marked general knowledge; log 17). -/
def Obligations.StatusBytePacking : Prop :=
  ∀ (f g : Flags) (b4 : Bool), Packs (packP f b4) f b4
    ∧ unpackP .latch g (packP f b4) = { f with b := b4 }
    ∧ unpackP .pushedOnly g (packP f b4) = { f with b := g.b }

/-- Interrupt entry: three pushes, I and B by kind and parameter, the pc from $FFFE/F; A, X, Y, C, Z, D, V, N
untouched. Rests on 60_exceptions.md section 3 (parts of the entry are marked general knowledge or decisions;
log 4, log 19). -/
def Obligations.EntryPushesPcAndStatus : Prop :=
  ∀ (s : State) (k : TrapKind) (ret : Word) (p : Byte), Packs p s.flags (k = .brk) →
    let t := s.interruptEntry k ret
    t = { ((s.write (stackAddr s.sp) (hiByte ret)).write (stackAddr (s.sp - 1)) (loByte ret)).write
            (stackAddr (s.sp - 2)) p with
          sp := s.sp - 3
          flags :=
            { s.flags with
              i := if k = .irq ∨ s.params.brkSetsI = true then true else s.flags.i
              b := if s.params.bModel = .latch then decide (k = .brk) else s.flags.b }
          pc := wordOf (t.read .vector 0xFFFF) (t.read .vector 0xFFFE) }

/-- After entry on a RAM stack the three bytes below the old S hold the return address and the status of before
entry. Rests on 60_exceptions.md section 3, "What is saved, and where" (marked general knowledge in part;
log 17, log 18, log 19). -/
def Obligations.EntryFrameOnTheStack : Prop :=
  ∀ (s : State) (k : TrapKind) (ret : Word) (use : Access), s.mem.wf = true → StackIsRam s →
    let t := s.interruptEntry k ret
    t.read use (stackAddr s.sp) = hiByte ret ∧ t.read use (stackAddr (s.sp - 1)) = loByte ret
    ∧ Packs (t.read use (stackAddr (s.sp - 2))) s.flags (k = .brk)
    ∧ ∀ a : Word, a ≠ stackAddr s.sp → a ≠ stackAddr (s.sp - 1) → a ≠ stackAddr (s.sp - 2) →
        t.read use a = s.read use a

/-- RTI at the end of a handler that leaves its frame and S alone resumes at the return address with the old flags
and S. Rests on 60_exceptions.md section 5 (rests on decisions of the spec; log 4, log 17, log 18, log 19). -/
def Obligations.RtiUndoesTheEntry : Prop :=
  ∀ (s h : State) (k : TrapKind) (ret : Word), s.mem.wf = true → StackIsRam s →
    h.sp = (s.interruptEntry k ret).sp → h.params = s.params →
    (∀ p ∈ [s.sp, s.sp - 1, s.sp - 2],
      h.read .stack (stackAddr p) = (s.interruptEntry k ret).read .stack (stackAddr p)) →
    ∃ t, exec .rti h = .next t ∧ t.pc = ret ∧ t.sp = s.sp
      ∧ t.flags = { s.flags with b := if s.params.bModel = .latch then decide (k = .brk) else h.flags.b }
      ∧ t.a = h.a ∧ t.x = h.x ∧ t.y = h.y ∧ t.mem = h.mem

/-- RTS at the end of a subroutine that leaves its return address and S alone resumes after the JSR. Rests on
47_jumps.md, JSR and RTS (rests on the stack convention; log 18). -/
def Obligations.CallAndReturnMeet : Prop :=
  ∀ (s : State) (target : Word), s.mem.wf = true → StackIsRam s →
    ∃ c, exec (.jsr target) s = .next c ∧ c.pc = target
      ∧ ∀ h : State, h.sp = c.sp → h.params = c.params →
        (∀ p ∈ [s.sp, s.sp - 1], h.read .stack (stackAddr p) = c.read .stack (stackAddr p)) →
        ∃ t, exec .rts h = .next t ∧ t.pc = s.pc + 3 ∧ t.sp = s.sp
          ∧ t.a = h.a ∧ t.x = h.x ∧ t.y = h.y ∧ t.flags = h.flags ∧ t.mem = h.mem

/-- PHP then PLP restores every flag and S; PHA then PLA restores A and S. Rests on 49_stack_transfer.md, PHP ("PHP
then PLP restores every flag and S") and PHA; log 17, log 18. -/
def Obligations.PushThenPullRestores : Prop :=
  ∀ s : State, s.mem.wf = true → s.kindAt (stackAddr s.sp) = .ram →
    (∃ t u, exec .php s = .next t ∧ exec .plp t = .next u ∧ u.flags = s.flags ∧ u.sp = s.sp ∧ u.pc = s.pc + 2)
    ∧ ∃ t u, exec .pha s = .next t ∧ exec .pla t = .next u ∧ u.a = s.a ∧ u.sp = s.sp ∧ u.pc = s.pc + 2

/-- Without a reset: no request, the instruction is executed; a request is taken exactly when the mask is 0, after
CLI, SEI or PLP the old or new I. Rests on 60_exceptions.md section 2 (the mask after CLI, SEI and PLP is a
decision of the spec; log 7, log 8). -/
def Obligations.RequestTakenByTheMask : Prop :=
  ∀ s : State,
    (s.inputs = [] → s.input.reset = false ∧ s.input.irq = false)
    ∧ (∀ next later, s.inputs = next :: later → s.input = next)
    ∧ (s.input.reset = false → s.input.irq = false → s.boundary = .execute)
    ∧ (s.input.reset = false → s.input.irq = true →
      let taken := step s = .next (s.beginStep.interruptEntry .irq s.pc)
      (s.prevI = none → (s.flags.i = false → taken) ∧ (s.flags.i = true → s.boundary = .execute))
      ∧ ∀ old, s.prevI = some old →
        (s.input.maskOld = true → (old = false → taken) ∧ (old = true → s.boundary = .execute))
        ∧ (s.input.maskOld = false → (s.flags.i = false → taken) ∧ (s.flags.i = true → s.boundary = .execute)))

/-- A reset at any boundary wins: I = 1, the pc from $FFFC/D, memory and parameters kept, nothing pushed. Rests on
70_reset_and_hazards.md section 1 (marked general knowledge and a decision of the spec; log 9). -/
def Obligations.ResetAtABoundary : Prop :=
  ∀ s : State, s.input.reset = true →
    ∃ t, step s = .next t ∧ t.flags.i = true ∧ t.mem = s.mem ∧ t.params = s.params
      ∧ t.pc = wordOf (s.beginStep.read .vector 0xFFFD) (s.beginStep.read .vector 0xFFFC)

/-- State.reset: I = 1 and the pc from the reset vector; the values the model names for what the spec leaves
unspecified. Rests on 10_state.md section 6 and 70_reset_and_hazards.md section 1 (I and the pc marked general
knowledge; the other values are the model's: log 1, log 2, log 3, log 4). -/
def Obligations.PowerUpValues : Prop :=
  State.reset.flags.i = true
    ∧ State.reset.pc = wordOf (State.reset.read .vector 0xFFFD) (State.reset.read .vector 0xFFFC)
    ∧ State.reset.mem = [] ∧ State.reset.a = 0 ∧ State.reset.x = 0 ∧ State.reset.y = 0 ∧ State.reset.sp = 0xFD
    ∧ State.reset.flags = { c := false, z := false, i := true, d := false, b := false, v := false, n := false }
    ∧ State.reset.params = { bModel := .latch, brkSetsI := false, memMap := [] } ∧ State.reset.inputs = []

/-- A step runs the instruction that the decoder reads at the pc, past the boundary. Rests on 30_encoding.md section
1, Decoding; 60_exceptions.md section 2, Sampling; log 7, log 8, log 11. -/
def Obligations.StepRunsTheDecodedInstruction : Prop :=
  ∀ (s : State) (i : Instr) (rest : List Byte), s.boundary = .execute →
    let s' := { s with inputs := s.inputs.tail, prevI := none, draws := s.draws + 1 }
    decode [s'.read .fetch s.pc, s'.read .fetch (s.pc + 1), s'.read .fetch (s.pc + 2)] = .ok (i, rest) →
    step s = exec i s'

/-- Words written out from the opcode tables decode to their instructions. Rests on 30_encoding.md sections 1 and 5
(the order of operand bytes is marked general knowledge: log 16). -/
def Obligations.SampleWordsDecode : Prop :=
  decode [0x69, 0x10] = .ok (.adcImm 0x10, []) ∧ decode [0x0A] = .ok (.aslAcc, [])
    ∧ decode [0xD0, 0xF8] = .ok (.bne 0xF8, []) ∧ decode [0x00, 0xFF] = .ok (.brk, [0xFF])
    ∧ decode [0xD8] = .ok (.cld, []) ∧ decode [0xEE, 0x34, 0x12] = .ok (.incAbs 0x1234, [])
    ∧ decode [0x6C, 0xFF, 0x02] = .ok (.jmpInd 0x02FF, []) ∧ decode [0xB1, 0x20] = .ok (.ldaIndY 0x20, [])
    ∧ decode [0x96, 0xFE] = .ok (.stxZpY 0xFE, []) ∧ decode [0x9A] = .ok (.txs, [])

/-- Decoding the encoding of any instruction, whatever follows it, gives the instruction and what follows. Rests on
30_encoding.md section 1 (operand byte order marked general knowledge; log 16). -/
def Obligations.DecodeOfEncode : Prop :=
  ∀ (i : Instr) (rest : List Byte), decode (encode i ++ rest) = .ok (i, rest)

/-- Whatever bytes decode to an instruction are that instruction's encoding: each has one encoding. Rests on
30_encoding.md section 1 (operand byte order marked general knowledge; log 16). -/
def Obligations.EncodeOfDecode : Prop :=
  ∀ (bs rest : List Byte) (i : Instr), decode bs = .ok (i, rest) → bs = encode i ++ rest

/-- The decoder rejects exactly the 105 undefined opcode bytes by name, and the step refuses them. Rests on
30_encoding.md section 3 (refusing them is a decision of the spec; log 10). -/
def Obligations.UndefinedOpcodesAreRefused : Prop :=
  (∀ op b1 b2 : Byte, decode [op, b1, b2] = .error (.undefinedOpcode op) ↔ op ∈ undefinedOpcodes)
    ∧ ∀ s : State, s.boundary = .execute → s.beginStep.read .fetch s.pc ∈ undefinedOpcodes →
      step s = .refused (.undefinedOpcode (s.beginStep.read .fetch s.pc))

/-- Every step keeps memory in its canonical form and the platform's parameters as they are. Rests on 20_memory.md
sections 1 and 3; 00_scope.md section 5 (the parameters are fixed for a machine; log 1, log 4). -/
def Obligations.StepKeepsTheInvariant : Prop :=
  ∀ (p : Params) (s t : State), Inv p s → step s = .next t → Inv p t

/-- State.reset has the invariant. Rests on 10_state.md section 6 (log 1, log 4). -/
def Obligations.ResetHasTheInvariant : Prop :=
  Inv { bModel := .latch, brkSetsI := false, memMap := [] } State.reset

/-- No step changes the contents of an address that the map says is not RAM. Rests on 20_memory.md section 3
(MEM_MAP; log 6). -/
def Obligations.OnlyRamChanges : Prop :=
  ∀ (s t : State) (a : Word), step s = .next t → s.kindAt a ≠ .ram → t.mem.get a.toNat = s.mem.get a.toNat

/-- Every instruction, with every operand, answers a next state in every state. Rests on 60_exceptions.md section 1
(no instruction traps on its operands or on its address; log 5). -/
def Obligations.EveryInstructionCompletes : Prop :=
  ∀ (i : Instr) (s : State), ∃ t, exec i s = .next t

/-- A step answers a next state unless it is to execute an undefined opcode byte. Rests on 30_encoding.md section 3
and 60_exceptions.md section 1 (refusing undefined opcodes is a decision of the spec: log 10; that ADC and SBC
run with D = 1 is the model's choice of the two ways the spec gives: log 5). -/
def Obligations.StepStopsOnlyAtUndefinedOpcodes : Prop :=
  ∀ s : State, (∃ t, step s = .next t) ↔ ¬ AtUndefinedOpcode s

/-- Every instruction leaves every byte of memory alone but those at the addresses it stores to. Rests on
20_memory.md section 4 and the instruction files; log 13. -/
def Obligations.StoresGoWhereComputed : Prop :=
  ∀ (i : Instr) (s t : State), exec i s = .next t →
    ∀ a : Word, a ∉ storeAddrs s i → ∀ use : Access, t.read use a = s.read use a

/-- A, X, Y and S change only by the instructions that the register table lists as their writers. Rests on
10_state.md section 1, the table "written by". -/
def Obligations.RegistersChangeOnlyByTheirWriters : Prop :=
  ∀ (i : Instr) (s t : State), exec i s = .next t →
    (mnemonic i ∉ [.ADC, .AND, .ASL, .EOR, .LDA, .LSR, .ORA, .PLA, .ROL, .ROR, .SBC, .TXA, .TYA] → t.a = s.a)
    ∧ (storeAddrs s i ≠ [] → t.a = s.a)
    ∧ (mnemonic i ∉ [.DEX, .INX, .LDX, .TAX, .TSX] → t.x = s.x)
    ∧ (mnemonic i ∉ [.DEY, .INY, .LDY, .TAY] → t.y = s.y)
    ∧ (mnemonic i ∉ [.TXS, .BRK, .JSR, .PHA, .PHP, .PLA, .PLP, .RTI, .RTS] → t.sp = s.sp)

/-- Each of the seven flags changes only by the instructions that the flag table lists for it. Rests on 10_state.md
section 4.2, the table of flags written (that the field b never changes under pushed_only, the last clause, is
the model's own: log 15; the parameters are data in State: log 4). -/
def Obligations.FlagsChangeOnlyByTheirWriters : Prop :=
  ∀ (i : Instr) (s t : State), exec i s = .next t →
    (mnemonic i ∉ [.ADC, .SBC, .ASL, .LSR, .ROL, .ROR, .CMP, .CPX, .CPY, .CLC, .SEC, .PLP, .RTI] →
      t.flags.c = s.flags.c)
    ∧ (mnemonic i ∉ [.ADC, .SBC, .AND, .EOR, .ORA, .ASL, .LSR, .ROL, .ROR, .BIT, .CMP, .CPX, .CPY, .DEC, .DEX,
        .DEY, .INC, .INX, .INY, .LDA, .LDX, .LDY, .PLA, .PLP, .RTI, .TAX, .TAY, .TSX, .TXA, .TYA] →
      t.flags.z = s.flags.z ∧ t.flags.n = s.flags.n)
    ∧ (mnemonic i ∉ [.ADC, .SBC, .BIT, .CLV, .PLP, .RTI] → t.flags.v = s.flags.v)
    ∧ (mnemonic i ∉ [.CLD, .SED, .PLP, .RTI] → t.flags.d = s.flags.d)
    ∧ (mnemonic i ∉ [.CLI, .SEI, .PLP, .RTI, .BRK] → t.flags.i = s.flags.i)
    ∧ (mnemonic i = .BRK → s.params.brkSetsI = false → t.flags.i = s.flags.i)
    ∧ (mnemonic i ∉ [.BRK, .PLP, .RTI] → t.flags.b = s.flags.b)
    ∧ (s.params.bModel = .pushedOnly → t.flags.b = s.flags.b)

/-- Every instruction that does not transfer control ends at the next instruction's address. Rule R66. -/
def Obligations.SequentialInstructionsAdvance : Prop :=
  ∀ (i : Instr) (s t : State), exec i s = .next t →
    mnemonic i ∉ [.BCC, .BCS, .BEQ, .BMI, .BNE, .BPL, .BVC, .BVS, .JMP, .JSR, .RTS, .BRK, .RTI] →
    t.pc.toNat = (s.pc.toNat + (encode i).length) % 65536

/-- No instruction changes the parameters, the inputs to come or the step number; only CLI, SEI and PLP note the old
I. Rests on 00_scope.md section 5; 60_exceptions.md section 2 (log 4, log 7, log 8, log 11). -/
def Obligations.ModelFieldsAreLeftAlone : Prop :=
  ∀ (i : Instr) (s t : State), exec i s = .next t →
    t.params = s.params ∧ t.inputs = s.inputs ∧ t.draws = s.draws
    ∧ (mnemonic i ∉ [.CLI, .SEI, .PLP] → t.prevI = s.prevI)
    ∧ (mnemonic i ∈ [.CLI, .SEI, .PLP] → t.prevI = some s.flags.i)

/-- But for ADC, SBC and the instructions that push or load D, no instruction's effect depends on D. Rests on
10_state.md section 4.1, D ("No other instruction's result depends on D", marked general knowledge). -/
def Obligations.DecimalFlagTouchesOnlyArithmetic : Prop :=
  ∀ (i : Instr) (s t : State) (d : Bool),
    mnemonic i ∉ [.ADC, .SBC, .PHP, .PLP, .RTI, .BRK, .CLD, .SED] → exec i s = .next t →
    exec i (withD s d) = .next (withD t d)

/-- At the end of a run the step changes nothing of the 6502: it jumps to where it is. Rests on
70_reset_and_hazards.md section 5 (a convention of the spec; log 24). -/
def Obligations.EndOfRunIsALoop : Prop :=
  ∀ s : State, EndOfRun s → ∃ t, step s = .next t ∧ t.pc = s.pc ∧ t.a = s.a ∧ t.x = s.x ∧ t.y = s.y
    ∧ t.sp = s.sp ∧ t.flags = s.flags ∧ t.mem = s.mem
end

