-- ==== Sys2Proof/Laws/Decode.lean ====
section
/-! SUPPORT. The laws of bytes and words, and what the decoder answers, said once. -/

namespace Sys2Proof

theorem wordOf_toNat (hi lo : Byte) : (wordOf hi lo).toNat = hi.toNat * 256 + lo.toNat := by
  simp only [wordOf, BitVec.toNat_append]
  rw [Nat.shiftLeft_eq, ← Nat.shiftLeft_eq, ← Nat.shiftLeft_add_eq_or_of_lt lo.isLt, Nat.shiftLeft_eq]

theorem loByte_toNat (w : Word) : (loByte w).toNat = w.toNat % 256 := by
  simp [loByte, BitVec.extractLsb'_toNat]

theorem hiByte_toNat (w : Word) : (hiByte w).toNat = w.toNat / 256 := by
  have := w.isLt
  simp [hiByte, BitVec.extractLsb'_toNat, Nat.shiftRight_eq_div_pow]
  omega

@[simp] theorem hiByte_wordOf (hi lo : Byte) : hiByte (wordOf hi lo) = hi := by
  apply BitVec.eq_of_toNat_eq
  rw [hiByte_toNat, wordOf_toNat]
  have := lo.isLt
  omega

@[simp] theorem loByte_wordOf (hi lo : Byte) : loByte (wordOf hi lo) = lo := by
  apply BitVec.eq_of_toNat_eq
  rw [loByte_toNat, wordOf_toNat]
  have := lo.isLt
  omega

@[simp] theorem wordOf_hiByte_loByte (w : Word) : wordOf (hiByte w) (loByte w) = w := by
  apply BitVec.eq_of_toNat_eq
  rw [wordOf_toNat, hiByte_toNat, loByte_toNat]
  omega

/-- Two words are equal when their bytes are. -/
theorem wordOf_inj {h h' l l' : Byte} : wordOf h l = wordOf h' l' ↔ h = h' ∧ l = l' := by
  constructor
  · intro e
    exact ⟨by simpa using congrArg hiByte e, by simpa using congrArg loByte e⟩
  · rintro ⟨rfl, rfl⟩
    rfl

/-- The decoder on a list and the decoder on three bytes are one. -/
theorem decode_three (b0 b1 b2 : Byte) :
    decode [b0, b1, b2] =
      match lookup b0 with
      | none => .error (.undefinedOpcode b0)
      | some f => .ok (f.build b1 b2, [b1, b2].drop (f.length - 1)) := by
  simp only [decode]
  cases h : lookup b0 with
  | none => rfl
  | some f => cases f <;> rfl

/-- What a decoded list of bytes is: an opcode byte of the map, then the operand bytes of its form, then the rest. -/
theorem decode_ok {bs rest : List Byte} {i : Instr} (h : decode bs = .ok (i, rest)) :
    ∃ op, (lookup op = some (.implied i) ∧ bs = op :: rest)
      ∨ (∃ f b1, lookup op = some (.byte f) ∧ i = f b1 ∧ bs = op :: b1 :: rest)
      ∨ (∃ f b1 b2, lookup op = some (.word f) ∧ i = f (wordOf b2 b1) ∧ bs = op :: b1 :: b2 :: rest) := by
  cases bs with
  | nil => simp [decode] at h
  | cons op tl =>
    refine ⟨op, ?_⟩
    simp only [decode] at h
    cases hl : lookup op with
    | none => simp [hl] at h
    | some f =>
      rw [hl] at h
      cases f with
      | implied j =>
        simp only [Except.ok.injEq, Prod.mk.injEq] at h
        obtain ⟨rfl, rfl⟩ := h
        exact .inl ⟨rfl, rfl⟩
      | byte f =>
        cases tl with
        | nil => simp at h
        | cons b1 tl =>
          simp only [Except.ok.injEq, Prod.mk.injEq] at h
          obtain ⟨rfl, rfl⟩ := h
          exact .inr (.inl ⟨f, b1, rfl, rfl, rfl⟩)
      | word f =>
        match tl, h with
        | [], h => simp at h
        | [_], h => simp at h
        | b1 :: b2 :: tl, h =>
          simp only [Except.ok.injEq, Prod.mk.injEq] at h
          obtain ⟨rfl, rfl⟩ := h
          exact .inr (.inr ⟨f, b1, b2, rfl, rfl, rfl⟩)

end Sys2Proof
end

