-- ==== Sys2Proof/Laws/Memory.lean ====
section
/-! SUPPORT. The laws of memory's contents: what a read gives after a write, and that a write keeps the canonical form. -/

namespace Sys2Proof.Machine

@[simp] theorem Mem.get_nil (a : Nat) : Mem.get [] a = unlistedByte := rfl

theorem Mem.get_cons_same (m : Mem) (a : Nat) (v : Byte) (h : m.get a = unlistedByte) :
    (Mem.cons a v m).get a = v := by
  unfold Mem.cons
  split
  · simp_all
  · simp [Mem.get]

theorem Mem.get_cons_other (m : Mem) {a b : Nat} (v : Byte) (h : b ≠ a) : (Mem.cons a v m).get b = m.get b := by
  unfold Mem.cons
  split
  · rfl
  · simp [Mem.get, h]

/-- An address below every listed one reads as unlisted. -/
theorem Mem.get_below {lo : Nat} {m : Mem} (h : Mem.wfFrom lo m = true) {a : Nat} (ha : a < lo) :
    m.get a = unlistedByte := by
  induction m generalizing lo with
  | nil => rfl
  | cons e m ih =>
    obtain ⟨k, w⟩ := e
    simp only [Mem.wfFrom, Bool.and_eq_true, decide_eq_true_eq] at h
    have hne : a ≠ k := by omega
    simp only [Mem.get, hne, if_false]
    exact ih h.2 (by omega)

/-- A write leaves every other address alone, whatever the list (R31). -/
theorem Mem.get_set_other (m : Mem) {a b : Nat} (v : Byte) (h : b ≠ a) : (m.set a v).get b = m.get b := by
  induction m with
  | nil => exact Mem.get_cons_other [] v h
  | cons e m ih =>
    obtain ⟨k, w⟩ := e
    simp only [Mem.set]
    split
    · subst_vars
      rw [Mem.get_cons_other m v h]
      simp [Mem.get, h]
    · split
      · exact Mem.get_cons_other _ v h
      · simp only [Mem.get, ih]

theorem Mem.get_setFrom_same {lo : Nat} {m : Mem} (h : Mem.wfFrom lo m = true) (a : Nat) (v : Byte) :
    (m.set a v).get a = v := by
  induction m generalizing lo with
  | nil => exact Mem.get_cons_same [] a v rfl
  | cons e m ih =>
    obtain ⟨k, w⟩ := e
    have h' := h
    simp only [Mem.wfFrom, Bool.and_eq_true, decide_eq_true_eq] at h'
    simp only [Mem.set]
    split
    · subst_vars
      exact Mem.get_cons_same m _ v (Mem.get_below h'.2 (by omega))
    · split
      · refine Mem.get_cons_same _ a v ?_
        have hne : a ≠ k := by omega
        simp only [Mem.get, hne, if_false]
        exact Mem.get_below h'.2 (by omega)
      · have hne : ¬ a = k := by omega
        simp only [Mem.get, hne, if_false]
        exact ih h'.2

/-- A read after a write to the same address gives the byte written (R31). -/
theorem Mem.get_set_same {m : Mem} (h : m.wf = true) (a : Nat) (v : Byte) : (m.set a v).get a = v :=
  Mem.get_setFrom_same h a v

theorem Mem.wfFrom_mono {lo lo' : Nat} {m : Mem} (hle : lo' ≤ lo) (h : Mem.wfFrom lo m = true) :
    Mem.wfFrom lo' m = true := by
  cases m with
  | nil => rfl
  | cons e m =>
    obtain ⟨k, w⟩ := e
    simp only [Mem.wfFrom, Bool.and_eq_true, decide_eq_true_eq] at h ⊢
    exact ⟨⟨⟨by omega, h.1.1.2⟩, h.1.2⟩, h.2⟩

theorem Mem.wfFrom_cons {lo a : Nat} {m : Mem} (v : Byte) (hlo : lo ≤ a) (ha : a < 65536)
    (h : Mem.wfFrom (a + 1) m = true) : Mem.wfFrom lo (Mem.cons a v m) = true := by
  unfold Mem.cons
  split
  · exact Mem.wfFrom_mono (by omega) h
  · rename_i hv
    simp only [Mem.wfFrom, Bool.and_eq_true, decide_eq_true_eq]
    exact ⟨⟨⟨hlo, ha⟩, hv⟩, h⟩

theorem Mem.wfFrom_set {lo a : Nat} {m : Mem} (v : Byte) (hlo : lo ≤ a) (ha : a < 65536)
    (h : Mem.wfFrom lo m = true) : Mem.wfFrom lo (m.set a v) = true := by
  induction m generalizing lo with
  | nil => exact Mem.wfFrom_cons v hlo ha rfl
  | cons e m ih =>
    obtain ⟨k, w⟩ := e
    have h' := h
    simp only [Mem.wfFrom, Bool.and_eq_true, decide_eq_true_eq] at h'
    simp only [Mem.set]
    split
    · subst_vars
      exact Mem.wfFrom_cons v hlo ha h'.2
    · split
      · refine Mem.wfFrom_cons v hlo ha ?_
        simp only [Mem.wfFrom, Bool.and_eq_true, decide_eq_true_eq]
        exact ⟨⟨⟨by omega, h'.1.1.2⟩, h'.1.2⟩, h'.2⟩
      · simp only [Mem.wfFrom, Bool.and_eq_true, decide_eq_true_eq]
        exact ⟨h'.1, ih (by omega) h'.2⟩

/-- A write at an address of the address space keeps the canonical form. -/
theorem Mem.wf_set {m : Mem} (h : m.wf = true) {a : Nat} (ha : a < 65536) (v : Byte) : (m.set a v).wf = true :=
  Mem.wfFrom_set v (Nat.zero_le a) ha h

theorem Mem.wf_nil : Mem.wf [] = true := rfl

end Sys2Proof.Machine
end

