-- ==== Sys2Proof/Laws/State.lean ====
section
/-! SUPPORT. The fields of State under each shared operation: one lemma per field per operation, so that no proof unfolds
a record update. -/

namespace Sys2Proof.Machine

open Sys2Proof.Config

@[simp] theorem State.advance_a (s : State) (n : Nat) : (s.advance n).a = s.a := rfl

@[simp] theorem State.advance_x (s : State) (n : Nat) : (s.advance n).x = s.x := rfl

@[simp] theorem State.advance_y (s : State) (n : Nat) : (s.advance n).y = s.y := rfl

@[simp] theorem State.advance_sp (s : State) (n : Nat) : (s.advance n).sp = s.sp := rfl

@[simp] theorem State.advance_pc (s : State) (n : Nat) : (s.advance n).pc = s.pc + BitVec.ofNat 16 n := rfl

@[simp] theorem State.advance_flags (s : State) (n : Nat) : (s.advance n).flags = s.flags := rfl

@[simp] theorem State.advance_mem (s : State) (n : Nat) : (s.advance n).mem = s.mem := rfl

@[simp] theorem State.advance_prevI (s : State) (n : Nat) : (s.advance n).prevI = s.prevI := rfl

@[simp] theorem State.advance_inputs (s : State) (n : Nat) : (s.advance n).inputs = s.inputs := rfl

@[simp] theorem State.advance_draws (s : State) (n : Nat) : (s.advance n).draws = s.draws := rfl

@[simp] theorem State.advance_params (s : State) (n : Nat) : (s.advance n).params = s.params := rfl

@[simp] theorem State.putA_a (s : State) (r : Byte) : (s.putA r).a = r := rfl

@[simp] theorem State.putA_x (s : State) (r : Byte) : (s.putA r).x = s.x := rfl

@[simp] theorem State.putA_y (s : State) (r : Byte) : (s.putA r).y = s.y := rfl

@[simp] theorem State.putA_sp (s : State) (r : Byte) : (s.putA r).sp = s.sp := rfl

@[simp] theorem State.putA_pc (s : State) (r : Byte) : (s.putA r).pc = s.pc := rfl

@[simp] theorem State.putA_flags (s : State) (r : Byte) : (s.putA r).flags = s.flags.setNZ r := rfl

@[simp] theorem State.putA_mem (s : State) (r : Byte) : (s.putA r).mem = s.mem := rfl

@[simp] theorem State.putA_prevI (s : State) (r : Byte) : (s.putA r).prevI = s.prevI := rfl

@[simp] theorem State.putA_inputs (s : State) (r : Byte) : (s.putA r).inputs = s.inputs := rfl

@[simp] theorem State.putA_draws (s : State) (r : Byte) : (s.putA r).draws = s.draws := rfl

@[simp] theorem State.putA_params (s : State) (r : Byte) : (s.putA r).params = s.params := rfl

@[simp] theorem State.putX_a (s : State) (r : Byte) : (s.putX r).a = s.a := rfl

@[simp] theorem State.putX_x (s : State) (r : Byte) : (s.putX r).x = r := rfl

@[simp] theorem State.putX_y (s : State) (r : Byte) : (s.putX r).y = s.y := rfl

@[simp] theorem State.putX_sp (s : State) (r : Byte) : (s.putX r).sp = s.sp := rfl

@[simp] theorem State.putX_pc (s : State) (r : Byte) : (s.putX r).pc = s.pc := rfl

@[simp] theorem State.putX_flags (s : State) (r : Byte) : (s.putX r).flags = s.flags.setNZ r := rfl

@[simp] theorem State.putX_mem (s : State) (r : Byte) : (s.putX r).mem = s.mem := rfl

@[simp] theorem State.putX_prevI (s : State) (r : Byte) : (s.putX r).prevI = s.prevI := rfl

@[simp] theorem State.putX_inputs (s : State) (r : Byte) : (s.putX r).inputs = s.inputs := rfl

@[simp] theorem State.putX_draws (s : State) (r : Byte) : (s.putX r).draws = s.draws := rfl

@[simp] theorem State.putX_params (s : State) (r : Byte) : (s.putX r).params = s.params := rfl

@[simp] theorem State.putY_a (s : State) (r : Byte) : (s.putY r).a = s.a := rfl

@[simp] theorem State.putY_x (s : State) (r : Byte) : (s.putY r).x = s.x := rfl

@[simp] theorem State.putY_y (s : State) (r : Byte) : (s.putY r).y = r := rfl

@[simp] theorem State.putY_sp (s : State) (r : Byte) : (s.putY r).sp = s.sp := rfl

@[simp] theorem State.putY_pc (s : State) (r : Byte) : (s.putY r).pc = s.pc := rfl

@[simp] theorem State.putY_flags (s : State) (r : Byte) : (s.putY r).flags = s.flags.setNZ r := rfl

@[simp] theorem State.putY_mem (s : State) (r : Byte) : (s.putY r).mem = s.mem := rfl

@[simp] theorem State.putY_prevI (s : State) (r : Byte) : (s.putY r).prevI = s.prevI := rfl

@[simp] theorem State.putY_inputs (s : State) (r : Byte) : (s.putY r).inputs = s.inputs := rfl

@[simp] theorem State.putY_draws (s : State) (r : Byte) : (s.putY r).draws = s.draws := rfl

@[simp] theorem State.putY_params (s : State) (r : Byte) : (s.putY r).params = s.params := rfl

@[simp] theorem State.write_a (s : State) (a : Word) (v : Byte) : (s.write a v).a = s.a := rfl

@[simp] theorem State.write_x (s : State) (a : Word) (v : Byte) : (s.write a v).x = s.x := rfl

@[simp] theorem State.write_y (s : State) (a : Word) (v : Byte) : (s.write a v).y = s.y := rfl

@[simp] theorem State.write_sp (s : State) (a : Word) (v : Byte) : (s.write a v).sp = s.sp := rfl

@[simp] theorem State.write_pc (s : State) (a : Word) (v : Byte) : (s.write a v).pc = s.pc := rfl

@[simp] theorem State.write_flags (s : State) (a : Word) (v : Byte) : (s.write a v).flags = s.flags := rfl

@[simp] theorem State.write_prevI (s : State) (a : Word) (v : Byte) : (s.write a v).prevI = s.prevI := rfl

@[simp] theorem State.write_inputs (s : State) (a : Word) (v : Byte) : (s.write a v).inputs = s.inputs := rfl

@[simp] theorem State.write_draws (s : State) (a : Word) (v : Byte) : (s.write a v).draws = s.draws := rfl

@[simp] theorem State.write_params (s : State) (a : Word) (v : Byte) : (s.write a v).params = s.params := rfl

@[simp] theorem State.push_a (s : State) (v : Byte) : (s.push v).a = s.a := rfl

@[simp] theorem State.push_x (s : State) (v : Byte) : (s.push v).x = s.x := rfl

@[simp] theorem State.push_y (s : State) (v : Byte) : (s.push v).y = s.y := rfl

@[simp] theorem State.push_sp (s : State) (v : Byte) : (s.push v).sp = s.sp - 1 := rfl

@[simp] theorem State.push_pc (s : State) (v : Byte) : (s.push v).pc = s.pc := rfl

@[simp] theorem State.push_flags (s : State) (v : Byte) : (s.push v).flags = s.flags := rfl

@[simp] theorem State.push_mem (s : State) (v : Byte) : (s.push v).mem = (s.write (stackAddr s.sp) v).mem := rfl

@[simp] theorem State.push_prevI (s : State) (v : Byte) : (s.push v).prevI = s.prevI := rfl

@[simp] theorem State.push_inputs (s : State) (v : Byte) : (s.push v).inputs = s.inputs := rfl

@[simp] theorem State.push_draws (s : State) (v : Byte) : (s.push v).draws = s.draws := rfl

@[simp] theorem State.push_params (s : State) (v : Byte) : (s.push v).params = s.params := rfl

@[simp] theorem State.pushWord_a (s : State) (w : Word) : (s.pushWord w).a = s.a := rfl

@[simp] theorem State.pushWord_x (s : State) (w : Word) : (s.pushWord w).x = s.x := rfl

@[simp] theorem State.pushWord_y (s : State) (w : Word) : (s.pushWord w).y = s.y := rfl

@[simp] theorem State.pushWord_sp (s : State) (w : Word) : (s.pushWord w).sp = s.sp - 1 - 1 := rfl

@[simp] theorem State.pushWord_pc (s : State) (w : Word) : (s.pushWord w).pc = s.pc := rfl

@[simp] theorem State.pushWord_flags (s : State) (w : Word) : (s.pushWord w).flags = s.flags := rfl

@[simp] theorem State.pushWord_prevI (s : State) (w : Word) : (s.pushWord w).prevI = s.prevI := rfl

@[simp] theorem State.pushWord_inputs (s : State) (w : Word) : (s.pushWord w).inputs = s.inputs := rfl

@[simp] theorem State.pushWord_draws (s : State) (w : Word) : (s.pushWord w).draws = s.draws := rfl

@[simp] theorem State.pushWord_params (s : State) (w : Word) : (s.pushWord w).params = s.params := rfl

@[simp] theorem State.afterPull_a (s : State) : s.afterPull.a = s.a := rfl

@[simp] theorem State.afterPull_x (s : State) : s.afterPull.x = s.x := rfl

@[simp] theorem State.afterPull_y (s : State) : s.afterPull.y = s.y := rfl

@[simp] theorem State.afterPull_sp (s : State) : s.afterPull.sp = s.sp + 1 := rfl

@[simp] theorem State.afterPull_pc (s : State) : s.afterPull.pc = s.pc := rfl

@[simp] theorem State.afterPull_flags (s : State) : s.afterPull.flags = s.flags := rfl

@[simp] theorem State.afterPull_mem (s : State) : s.afterPull.mem = s.mem := rfl

@[simp] theorem State.afterPull_prevI (s : State) : s.afterPull.prevI = s.prevI := rfl

@[simp] theorem State.afterPull_inputs (s : State) : s.afterPull.inputs = s.inputs := rfl

@[simp] theorem State.afterPull_draws (s : State) : s.afterPull.draws = s.draws := rfl

@[simp] theorem State.afterPull_params (s : State) : s.afterPull.params = s.params := rfl

@[simp] theorem State.interruptEntry_a (s : State) (k : TrapKind) (ret : Word) : (s.interruptEntry k ret).a = s.a := rfl

@[simp] theorem State.interruptEntry_x (s : State) (k : TrapKind) (ret : Word) : (s.interruptEntry k ret).x = s.x := rfl

@[simp] theorem State.interruptEntry_y (s : State) (k : TrapKind) (ret : Word) : (s.interruptEntry k ret).y = s.y := rfl

@[simp] theorem State.interruptEntry_sp (s : State) (k : TrapKind) (ret : Word) :
    (s.interruptEntry k ret).sp = s.sp - 1 - 1 - 1 := rfl

@[simp] theorem State.interruptEntry_flags (s : State) (k : TrapKind) (ret : Word) :
    (s.interruptEntry k ret).flags = { s.flags with b := k.bAfter s.params s.flags.b, i := k.iAfter s.params s.flags.i } := rfl

@[simp] theorem State.interruptEntry_mem (s : State) (k : TrapKind) (ret : Word) :
    (s.interruptEntry k ret).mem = ((s.pushWord ret).push (packP s.flags k.bit4)).mem := rfl

@[simp] theorem State.interruptEntry_prevI (s : State) (k : TrapKind) (ret : Word) : (s.interruptEntry k ret).prevI = s.prevI := rfl

@[simp] theorem State.interruptEntry_inputs (s : State) (k : TrapKind) (ret : Word) : (s.interruptEntry k ret).inputs = s.inputs := rfl

@[simp] theorem State.interruptEntry_draws (s : State) (k : TrapKind) (ret : Word) : (s.interruptEntry k ret).draws = s.draws := rfl

@[simp] theorem State.interruptEntry_params (s : State) (k : TrapKind) (ret : Word) : (s.interruptEntry k ret).params = s.params := rfl

@[simp] theorem State.returnFromInterrupt_a (s : State) : s.returnFromInterrupt.a = s.a := rfl

@[simp] theorem State.returnFromInterrupt_x (s : State) : s.returnFromInterrupt.x = s.x := rfl

@[simp] theorem State.returnFromInterrupt_y (s : State) : s.returnFromInterrupt.y = s.y := rfl

@[simp] theorem State.returnFromInterrupt_sp (s : State) : s.returnFromInterrupt.sp = s.sp + 1 + 1 + 1 := rfl

@[simp] theorem State.returnFromInterrupt_pc (s : State) : s.returnFromInterrupt.pc = s.afterPull.pullWord := rfl

@[simp] theorem State.returnFromInterrupt_flags (s : State) :
    s.returnFromInterrupt.flags = unpackP s.params.bModel s.flags s.pullByte := rfl

@[simp] theorem State.returnFromInterrupt_mem (s : State) : s.returnFromInterrupt.mem = s.mem := rfl

@[simp] theorem State.returnFromInterrupt_prevI (s : State) : s.returnFromInterrupt.prevI = s.prevI := rfl

@[simp] theorem State.returnFromInterrupt_inputs (s : State) : s.returnFromInterrupt.inputs = s.inputs := rfl

@[simp] theorem State.returnFromInterrupt_draws (s : State) : s.returnFromInterrupt.draws = s.draws := rfl

@[simp] theorem State.returnFromInterrupt_params (s : State) : s.returnFromInterrupt.params = s.params := rfl

@[simp] theorem State.resetSequence_a (s : State) : s.resetSequence.a = resetByte s.draws .a := rfl

@[simp] theorem State.resetSequence_x (s : State) : s.resetSequence.x = resetByte s.draws .x := rfl

@[simp] theorem State.resetSequence_y (s : State) : s.resetSequence.y = resetByte s.draws .y := rfl

@[simp] theorem State.resetSequence_sp (s : State) : s.resetSequence.sp = resetByte s.draws .s := rfl

@[simp] theorem State.resetSequence_pc (s : State) : s.resetSequence.pc = s.readWord .vector resetVector := rfl

@[simp] theorem State.resetSequence_mem (s : State) : s.resetSequence.mem = s.mem := rfl

@[simp] theorem State.resetSequence_prevI (s : State) : s.resetSequence.prevI = s.prevI := rfl

@[simp] theorem State.resetSequence_inputs (s : State) : s.resetSequence.inputs = s.inputs := rfl

@[simp] theorem State.resetSequence_draws (s : State) : s.resetSequence.draws = s.draws := rfl

@[simp] theorem State.resetSequence_params (s : State) : s.resetSequence.params = s.params := rfl

@[simp] theorem State.beginStep_a (s : State) : s.beginStep.a = s.a := rfl

@[simp] theorem State.beginStep_x (s : State) : s.beginStep.x = s.x := rfl

@[simp] theorem State.beginStep_y (s : State) : s.beginStep.y = s.y := rfl

@[simp] theorem State.beginStep_sp (s : State) : s.beginStep.sp = s.sp := rfl

@[simp] theorem State.beginStep_pc (s : State) : s.beginStep.pc = s.pc := rfl

@[simp] theorem State.beginStep_flags (s : State) : s.beginStep.flags = s.flags := rfl

@[simp] theorem State.beginStep_mem (s : State) : s.beginStep.mem = s.mem := rfl

@[simp] theorem State.beginStep_prevI (s : State) : s.beginStep.prevI = none := rfl

@[simp] theorem State.beginStep_inputs (s : State) : s.beginStep.inputs = s.inputs.tail := rfl

@[simp] theorem State.beginStep_draws (s : State) : s.beginStep.draws = s.draws + 1 := rfl

@[simp] theorem State.beginStep_params (s : State) : s.beginStep.params = s.params := rfl

@[simp] theorem Flags.setNZ_c (f : Flags) (w : Byte) : (f.setNZ w).c = f.c := rfl

@[simp] theorem Flags.setNZ_i (f : Flags) (w : Byte) : (f.setNZ w).i = f.i := rfl

@[simp] theorem Flags.setNZ_d (f : Flags) (w : Byte) : (f.setNZ w).d = f.d := rfl

@[simp] theorem Flags.setNZ_b (f : Flags) (w : Byte) : (f.setNZ w).b = f.b := rfl

@[simp] theorem Flags.setNZ_v (f : Flags) (w : Byte) : (f.setNZ w).v = f.v := rfl

@[simp] theorem Flags.setNZ_n (f : Flags) (w : Byte) : (f.setNZ w).n = w.getLsbD 7 := rfl

@[simp] theorem Flags.setNZ_z (f : Flags) (w : Byte) : (f.setNZ w).z = decide (w = 0) := rfl

@[simp] theorem State.resetSequence_flags_i (s : State) : s.resetSequence.flags.i = true := rfl

end Sys2Proof.Machine
end

