-- ==== Sys2Proof/Laws/Ops.lean ====
section
/-! SUPPORT. What each shared operation over memory and the stack can do, said once: reads and writes of one byte
(spec/20_memory.md R31, R38), pushes and pulls (R34), interrupt entry (spec/60_exceptions.md R203). -/

namespace Sys2Proof.Machine

open Sys2Proof.Config

/-- What the platform has at an address depends on the parameters alone. -/
theorem State.kindAt_congr {s t : State} (hp : t.params = s.params) (a : Word) : t.kindAt a = s.kindAt a := by
  simp only [State.kindAt, hp]

/-- A read depends on the contents of memory, the parameters and the step number alone. -/
theorem State.read_congr {s t : State} (hm : t.mem = s.mem) (hp : t.params = s.params) (hd : t.draws = s.draws)
    (use : Access) (a : Word) : t.read use a = s.read use a := by
  simp only [State.read, State.kindAt_congr hp, hm, hd]

@[simp] theorem State.kindAt_write (s : State) (a : Word) (v : Byte) (b : Word) :
    (s.write a v).kindAt b = s.kindAt b := rfl

@[simp] theorem State.kindAt_push (s : State) (v : Byte) (b : Word) : (s.push v).kindAt b = s.kindAt b := rfl

/-- A byte written to RAM is read back (R31). -/
theorem State.read_write_same {s : State} (hwf : s.mem.wf = true) {a : Word} (hk : s.kindAt a = .ram) (v : Byte)
    (use : Access) : (s.write a v).read use a = v := by
  simp only [State.read, State.kindAt_write, hk]
  simp only [State.write, hk]
  exact Mem.get_set_same hwf _ _

/-- A write changes no other byte (R31), whatever the map says of either address. -/
theorem State.read_write_other (s : State) {a b : Word} (h : b ≠ a) (v : Byte) (use : Access) :
    (s.write a v).read use b = s.read use b := by
  have hne : b.toNat ≠ a.toNat := fun e => h (BitVec.eq_of_toNat_eq e)
  have hget : (s.write a v).mem.get b.toNat = s.mem.get b.toNat := by
    simp only [State.write]
    split <;> first | rfl | exact Mem.get_set_other _ _ hne
  simp only [State.read, State.kindAt_write, State.write_draws, hget]

/-- A write where the map has no RAM changes nothing (R38). -/
theorem State.write_of_not_ram {s : State} {a : Word} (hk : s.kindAt a ≠ .ram) (v : Byte) : s.write a v = s := by
  simp only [State.write]
  cases h : s.kindAt a <;> simp_all

/-- A write keeps memory's canonical form. -/
theorem State.write_wf {s : State} (hwf : s.mem.wf = true) (a : Word) (v : Byte) : (s.write a v).mem.wf = true := by
  simp only [State.write]
  split <;> first | exact hwf | exact Mem.wf_set hwf a.isLt v

/-- A push stores at the address of S and nowhere else (R34). -/
theorem State.read_push_other (s : State) {b : Word} (h : b ≠ stackAddr s.sp) (v : Byte) (use : Access) :
    (s.push v).read use b = s.read use b := by
  rw [← State.read_write_other s h v use]
  exact State.read_congr rfl rfl rfl use b

/-- A byte pushed on a RAM stack is read back (R34). -/
theorem State.read_push_same {s : State} (hwf : s.mem.wf = true) (hk : s.kindAt (stackAddr s.sp) = .ram) (v : Byte)
    (use : Access) : (s.push v).read use (stackAddr s.sp) = v :=
  (State.read_congr rfl rfl rfl use _).trans (State.read_write_same hwf hk v use)

theorem State.push_wf {s : State} (hwf : s.mem.wf = true) (v : Byte) : (s.push v).mem.wf = true := by
  simpa using State.write_wf hwf (stackAddr s.sp) v

theorem State.pushWord_wf {s : State} (hwf : s.mem.wf = true) (w : Word) : (s.pushWord w).mem.wf = true :=
  State.push_wf (State.push_wf hwf _) _

theorem State.interruptEntry_wf {s : State} (hwf : s.mem.wf = true) (k : TrapKind) (ret : Word) :
    (s.interruptEntry k ret).mem.wf = true := by
  simpa using State.push_wf (State.pushWord_wf hwf ret) (packP s.flags k.bit4)

/-- The stack's addresses are the 256 of page $01 (R34). -/
theorem stackAddr_toNat (sp : Byte) : (stackAddr sp).toNat = 256 + sp.toNat := by
  simp [stackAddr, wordOf_toNat, stackPage]

theorem stackAddr_inj {p q : Byte} : stackAddr p = stackAddr q ↔ p = q := by
  simp [stackAddr, wordOf_inj]

/-- The addresses that a 16-bit push stores to. -/
theorem State.read_pushWord_other (s : State) {b : Word} (h0 : b ≠ stackAddr s.sp) (h1 : b ≠ stackAddr (s.sp - 1))
    (w : Word) (use : Access) : (s.pushWord w).read use b = s.read use b := by
  rw [State.pushWord, State.read_push_other _ (by simpa using h1), State.read_push_other _ h0]

/-- Interrupt entry stores to three bytes of the stack and nowhere else (R203). -/
theorem State.read_interruptEntry_other (s : State) {b : Word} (h0 : b ≠ stackAddr s.sp)
    (h1 : b ≠ stackAddr (s.sp - 1)) (h2 : b ≠ stackAddr (s.sp - 1 - 1)) (k : TrapKind) (ret : Word) (use : Access) :
    (s.interruptEntry k ret).read use b = s.read use b := by
  have hp : ((s.pushWord ret).push (packP s.flags k.bit4)).read use b = s.read use b := by
    rw [State.read_push_other _ (by simpa using h2), State.read_pushWord_other s h0 h1]
  exact (State.read_congr (by simp) (by simp) (by simp) use b).trans hp

/-- `a - 1` and `a` differ, as do the other neighbours the stack's proofs need. -/
theorem Byte.sub_one_ne (p : Byte) : p - 1 ≠ p ∧ p - 1 - 1 ≠ p ∧ p - 1 - 1 ≠ p - 1 := by
  refine ⟨?_, ?_, ?_⟩ <;> bv_omega

/-- The frame that interrupt entry leaves on a RAM stack (R203): the return address, high byte first, then the status. -/
theorem State.interruptEntry_frame {s : State} (hwf : s.mem.wf = true) (hk : ∀ p, s.kindAt (stackAddr p) = .ram)
    (k : TrapKind) (ret : Word) (use : Access) :
    (s.interruptEntry k ret).read use (stackAddr s.sp) = hiByte ret
      ∧ (s.interruptEntry k ret).read use (stackAddr (s.sp - 1)) = loByte ret
      ∧ (s.interruptEntry k ret).read use (stackAddr (s.sp - 1 - 1)) = packP s.flags k.bit4 := by
  obtain ⟨n0, n1, n2⟩ := Byte.sub_one_ne s.sp
  have step : ∀ b, (s.interruptEntry k ret).read use b
      = ((s.pushWord ret).push (packP s.flags k.bit4)).read use b := fun b =>
    State.read_congr (by simp) (by simp) (by simp) use b
  have w1 := State.push_wf hwf (hiByte ret)
  refine ⟨?_, ?_, ?_⟩
  · rw [step, State.read_push_other _ (by simpa [stackAddr_inj] using n1.symm), State.pushWord,
      State.read_push_other _ (by simpa [stackAddr_inj] using n0.symm), State.read_push_same hwf (hk _)]
  · rw [step, State.read_push_other _ (by simpa [stackAddr_inj] using n2.symm), State.pushWord]
    exact State.read_push_same w1 (by simpa using hk _) _ use
  · rw [step]
    exact State.read_push_same (State.push_wf w1 (loByte ret)) (by simpa [State.pushWord] using hk _) _ use

end Sys2Proof.Machine
end

