-- ==== Sys2Proof/Laws/Effects.lean ====
section
/-! SUPPORT. The fields of State under the effect that each family's instructions share, one lemma per field, and what
ADC and SBC do with D = 0 and with D = 1: the meanings are these effects and an advance of the pc. -/

namespace Sys2Proof.Machine

open Sys2Proof.Config

@[simp] theorem State.compare_a (s : State) (reg m : Byte) : (s.compare reg m).a = s.a := rfl

@[simp] theorem State.compare_x (s : State) (reg m : Byte) : (s.compare reg m).x = s.x := rfl

@[simp] theorem State.compare_y (s : State) (reg m : Byte) : (s.compare reg m).y = s.y := rfl

@[simp] theorem State.compare_sp (s : State) (reg m : Byte) : (s.compare reg m).sp = s.sp := rfl

@[simp] theorem State.compare_pc (s : State) (reg m : Byte) : (s.compare reg m).pc = s.pc := rfl

@[simp] theorem State.compare_flags (s : State) (reg m : Byte) :
    (s.compare reg m).flags = s.flags.compare reg m := rfl

@[simp] theorem State.compare_mem (s : State) (reg m : Byte) : (s.compare reg m).mem = s.mem := rfl

@[simp] theorem State.compare_prevI (s : State) (reg m : Byte) : (s.compare reg m).prevI = s.prevI := rfl

@[simp] theorem State.compare_inputs (s : State) (reg m : Byte) : (s.compare reg m).inputs = s.inputs := rfl

@[simp] theorem State.compare_draws (s : State) (reg m : Byte) : (s.compare reg m).draws = s.draws := rfl

@[simp] theorem State.compare_params (s : State) (reg m : Byte) : (s.compare reg m).params = s.params := rfl

@[simp] theorem State.bitTest_a (s : State) (m : Byte) : (s.bitTest m).a = s.a := rfl

@[simp] theorem State.bitTest_x (s : State) (m : Byte) : (s.bitTest m).x = s.x := rfl

@[simp] theorem State.bitTest_y (s : State) (m : Byte) : (s.bitTest m).y = s.y := rfl

@[simp] theorem State.bitTest_sp (s : State) (m : Byte) : (s.bitTest m).sp = s.sp := rfl

@[simp] theorem State.bitTest_pc (s : State) (m : Byte) : (s.bitTest m).pc = s.pc := rfl

@[simp] theorem State.bitTest_flags (s : State) (m : Byte) :
    (s.bitTest m).flags = { s.flags with z := decide (s.a &&& m = 0), n := m.getLsbD 7, v := m.getLsbD 6 } := rfl

@[simp] theorem State.bitTest_mem (s : State) (m : Byte) : (s.bitTest m).mem = s.mem := rfl

@[simp] theorem State.bitTest_prevI (s : State) (m : Byte) : (s.bitTest m).prevI = s.prevI := rfl

@[simp] theorem State.bitTest_inputs (s : State) (m : Byte) : (s.bitTest m).inputs = s.inputs := rfl

@[simp] theorem State.bitTest_draws (s : State) (m : Byte) : (s.bitTest m).draws = s.draws := rfl

@[simp] theorem State.bitTest_params (s : State) (m : Byte) : (s.bitTest m).params = s.params := rfl

@[simp] theorem State.shiftAcc_a (s : State) (f : Byte → Bool → ShiftResult) :
    (s.shiftAcc f).a = (f s.a s.flags.c).r := rfl

@[simp] theorem State.shiftAcc_x (s : State) (f : Byte → Bool → ShiftResult) : (s.shiftAcc f).x = s.x := rfl

@[simp] theorem State.shiftAcc_y (s : State) (f : Byte → Bool → ShiftResult) : (s.shiftAcc f).y = s.y := rfl

@[simp] theorem State.shiftAcc_sp (s : State) (f : Byte → Bool → ShiftResult) : (s.shiftAcc f).sp = s.sp := rfl

@[simp] theorem State.shiftAcc_pc (s : State) (f : Byte → Bool → ShiftResult) : (s.shiftAcc f).pc = s.pc := rfl

@[simp] theorem State.shiftAcc_flags (s : State) (f : Byte → Bool → ShiftResult) :
    (s.shiftAcc f).flags = { s.flags.setNZ (f s.a s.flags.c).r with c := (f s.a s.flags.c).c } := rfl

@[simp] theorem State.shiftAcc_mem (s : State) (f : Byte → Bool → ShiftResult) : (s.shiftAcc f).mem = s.mem := rfl

@[simp] theorem State.shiftAcc_prevI (s : State) (f : Byte → Bool → ShiftResult) :
    (s.shiftAcc f).prevI = s.prevI := rfl

@[simp] theorem State.shiftAcc_inputs (s : State) (f : Byte → Bool → ShiftResult) :
    (s.shiftAcc f).inputs = s.inputs := rfl

@[simp] theorem State.shiftAcc_draws (s : State) (f : Byte → Bool → ShiftResult) :
    (s.shiftAcc f).draws = s.draws := rfl

@[simp] theorem State.shiftAcc_params (s : State) (f : Byte → Bool → ShiftResult) :
    (s.shiftAcc f).params = s.params := rfl

@[simp] theorem State.shiftMem_a (s : State) (f : Byte → Bool → ShiftResult) (a : Word) :
    (s.shiftMem f a).a = s.a := rfl

@[simp] theorem State.shiftMem_x (s : State) (f : Byte → Bool → ShiftResult) (a : Word) :
    (s.shiftMem f a).x = s.x := rfl

@[simp] theorem State.shiftMem_y (s : State) (f : Byte → Bool → ShiftResult) (a : Word) :
    (s.shiftMem f a).y = s.y := rfl

@[simp] theorem State.shiftMem_sp (s : State) (f : Byte → Bool → ShiftResult) (a : Word) :
    (s.shiftMem f a).sp = s.sp := rfl

@[simp] theorem State.shiftMem_pc (s : State) (f : Byte → Bool → ShiftResult) (a : Word) :
    (s.shiftMem f a).pc = s.pc := rfl

@[simp] theorem State.shiftMem_flags (s : State) (f : Byte → Bool → ShiftResult) (a : Word) :
    (s.shiftMem f a).flags = { s.flags.setNZ (f (s.operand a) s.flags.c).r with c := (f (s.operand a) s.flags.c).c } := rfl

@[simp] theorem State.shiftMem_mem (s : State) (f : Byte → Bool → ShiftResult) (a : Word) :
    (s.shiftMem f a).mem = (s.write a (f (s.operand a) s.flags.c).r).mem := rfl

@[simp] theorem State.shiftMem_prevI (s : State) (f : Byte → Bool → ShiftResult) (a : Word) :
    (s.shiftMem f a).prevI = s.prevI := rfl

@[simp] theorem State.shiftMem_inputs (s : State) (f : Byte → Bool → ShiftResult) (a : Word) :
    (s.shiftMem f a).inputs = s.inputs := rfl

@[simp] theorem State.shiftMem_draws (s : State) (f : Byte → Bool → ShiftResult) (a : Word) :
    (s.shiftMem f a).draws = s.draws := rfl

@[simp] theorem State.shiftMem_params (s : State) (f : Byte → Bool → ShiftResult) (a : Word) :
    (s.shiftMem f a).params = s.params := rfl

@[simp] theorem State.branch_a (s : State) (cond : Bool) (rel : Byte) : (s.branch cond rel).a = s.a := rfl

@[simp] theorem State.branch_x (s : State) (cond : Bool) (rel : Byte) : (s.branch cond rel).x = s.x := rfl

@[simp] theorem State.branch_y (s : State) (cond : Bool) (rel : Byte) : (s.branch cond rel).y = s.y := rfl

@[simp] theorem State.branch_sp (s : State) (cond : Bool) (rel : Byte) : (s.branch cond rel).sp = s.sp := rfl

@[simp] theorem State.branch_pc (s : State) (cond : Bool) (rel : Byte) :
    (s.branch cond rel).pc = if cond then branchTarget s rel else branchNext s := rfl

@[simp] theorem State.branch_flags (s : State) (cond : Bool) (rel : Byte) : (s.branch cond rel).flags = s.flags := rfl

@[simp] theorem State.branch_mem (s : State) (cond : Bool) (rel : Byte) : (s.branch cond rel).mem = s.mem := rfl

@[simp] theorem State.branch_prevI (s : State) (cond : Bool) (rel : Byte) : (s.branch cond rel).prevI = s.prevI := rfl

@[simp] theorem State.branch_inputs (s : State) (cond : Bool) (rel : Byte) :
    (s.branch cond rel).inputs = s.inputs := rfl

@[simp] theorem State.branch_draws (s : State) (cond : Bool) (rel : Byte) : (s.branch cond rel).draws = s.draws := rfl

@[simp] theorem State.branch_params (s : State) (cond : Bool) (rel : Byte) :
    (s.branch cond rel).params = s.params := rfl

@[simp] theorem State.writeI_a (s : State) (i : Bool) : (s.writeI i).a = s.a := rfl

@[simp] theorem State.writeI_x (s : State) (i : Bool) : (s.writeI i).x = s.x := rfl

@[simp] theorem State.writeI_y (s : State) (i : Bool) : (s.writeI i).y = s.y := rfl

@[simp] theorem State.writeI_sp (s : State) (i : Bool) : (s.writeI i).sp = s.sp := rfl

@[simp] theorem State.writeI_pc (s : State) (i : Bool) : (s.writeI i).pc = s.pc := rfl

@[simp] theorem State.writeI_flags (s : State) (i : Bool) : (s.writeI i).flags = { s.flags with i := i } := rfl

@[simp] theorem State.writeI_mem (s : State) (i : Bool) : (s.writeI i).mem = s.mem := rfl

@[simp] theorem State.writeI_prevI (s : State) (i : Bool) : (s.writeI i).prevI = some s.flags.i := rfl

@[simp] theorem State.writeI_inputs (s : State) (i : Bool) : (s.writeI i).inputs = s.inputs := rfl

@[simp] theorem State.writeI_draws (s : State) (i : Bool) : (s.writeI i).draws = s.draws := rfl

@[simp] theorem State.writeI_params (s : State) (i : Bool) : (s.writeI i).params = s.params := rfl

@[simp] theorem State.incMem_a (s : State) (a : Word) : (s.incMem a).a = s.a := rfl

@[simp] theorem State.incMem_x (s : State) (a : Word) : (s.incMem a).x = s.x := rfl

@[simp] theorem State.incMem_y (s : State) (a : Word) : (s.incMem a).y = s.y := rfl

@[simp] theorem State.incMem_sp (s : State) (a : Word) : (s.incMem a).sp = s.sp := rfl

@[simp] theorem State.incMem_pc (s : State) (a : Word) : (s.incMem a).pc = s.pc := rfl

@[simp] theorem State.incMem_flags (s : State) (a : Word) :
    (s.incMem a).flags = s.flags.setNZ (s.operand a + 1) := rfl

@[simp] theorem State.incMem_mem (s : State) (a : Word) : (s.incMem a).mem = (s.write a (s.operand a + 1)).mem := rfl

@[simp] theorem State.incMem_prevI (s : State) (a : Word) : (s.incMem a).prevI = s.prevI := rfl

@[simp] theorem State.incMem_inputs (s : State) (a : Word) : (s.incMem a).inputs = s.inputs := rfl

@[simp] theorem State.incMem_draws (s : State) (a : Word) : (s.incMem a).draws = s.draws := rfl

@[simp] theorem State.incMem_params (s : State) (a : Word) : (s.incMem a).params = s.params := rfl

@[simp] theorem State.decMem_a (s : State) (a : Word) : (s.decMem a).a = s.a := rfl

@[simp] theorem State.decMem_x (s : State) (a : Word) : (s.decMem a).x = s.x := rfl

@[simp] theorem State.decMem_y (s : State) (a : Word) : (s.decMem a).y = s.y := rfl

@[simp] theorem State.decMem_sp (s : State) (a : Word) : (s.decMem a).sp = s.sp := rfl

@[simp] theorem State.decMem_pc (s : State) (a : Word) : (s.decMem a).pc = s.pc := rfl

@[simp] theorem State.decMem_flags (s : State) (a : Word) :
    (s.decMem a).flags = s.flags.setNZ (s.operand a - 1) := rfl

@[simp] theorem State.decMem_mem (s : State) (a : Word) : (s.decMem a).mem = (s.write a (s.operand a - 1)).mem := rfl

@[simp] theorem State.decMem_prevI (s : State) (a : Word) : (s.decMem a).prevI = s.prevI := rfl

@[simp] theorem State.decMem_inputs (s : State) (a : Word) : (s.decMem a).inputs = s.inputs := rfl

@[simp] theorem State.decMem_draws (s : State) (a : Word) : (s.decMem a).draws = s.draws := rfl

@[simp] theorem State.decMem_params (s : State) (a : Word) : (s.decMem a).params = s.params := rfl

@[simp] theorem State.call_a (s : State) (target : Word) : (s.call target).a = s.a := rfl

@[simp] theorem State.call_x (s : State) (target : Word) : (s.call target).x = s.x := rfl

@[simp] theorem State.call_y (s : State) (target : Word) : (s.call target).y = s.y := rfl

@[simp] theorem State.call_sp (s : State) (target : Word) : (s.call target).sp = s.sp - 1 - 1 := rfl

@[simp] theorem State.call_pc (s : State) (target : Word) : (s.call target).pc = target := rfl

@[simp] theorem State.call_flags (s : State) (target : Word) : (s.call target).flags = s.flags := rfl

@[simp] theorem State.call_mem (s : State) (target : Word) : (s.call target).mem = (s.pushWord (s.pc + 2)).mem := rfl

@[simp] theorem State.call_prevI (s : State) (target : Word) : (s.call target).prevI = s.prevI := rfl

@[simp] theorem State.call_inputs (s : State) (target : Word) : (s.call target).inputs = s.inputs := rfl

@[simp] theorem State.call_draws (s : State) (target : Word) : (s.call target).draws = s.draws := rfl

@[simp] theorem State.call_params (s : State) (target : Word) : (s.call target).params = s.params := rfl

@[simp] theorem State.returnFromCall_a (s : State) : s.returnFromCall.a = s.a := rfl

@[simp] theorem State.returnFromCall_x (s : State) : s.returnFromCall.x = s.x := rfl

@[simp] theorem State.returnFromCall_y (s : State) : s.returnFromCall.y = s.y := rfl

@[simp] theorem State.returnFromCall_sp (s : State) : s.returnFromCall.sp = s.sp + 1 + 1 := rfl

@[simp] theorem State.returnFromCall_pc (s : State) : s.returnFromCall.pc = s.pullWord + 1 := rfl

@[simp] theorem State.returnFromCall_flags (s : State) : s.returnFromCall.flags = s.flags := rfl

@[simp] theorem State.returnFromCall_mem (s : State) : s.returnFromCall.mem = s.mem := rfl

@[simp] theorem State.returnFromCall_prevI (s : State) : s.returnFromCall.prevI = s.prevI := rfl

@[simp] theorem State.returnFromCall_inputs (s : State) : s.returnFromCall.inputs = s.inputs := rfl

@[simp] theorem State.returnFromCall_draws (s : State) : s.returnFromCall.draws = s.draws := rfl

@[simp] theorem State.returnFromCall_params (s : State) : s.returnFromCall.params = s.params := rfl

@[simp] theorem State.pullFlags_a (s : State) : s.pullFlags.a = s.a := rfl

@[simp] theorem State.pullFlags_x (s : State) : s.pullFlags.x = s.x := rfl

@[simp] theorem State.pullFlags_y (s : State) : s.pullFlags.y = s.y := rfl

@[simp] theorem State.pullFlags_sp (s : State) : s.pullFlags.sp = s.sp + 1 := rfl

@[simp] theorem State.pullFlags_pc (s : State) : s.pullFlags.pc = s.pc := rfl

@[simp] theorem State.pullFlags_flags (s : State) :
    s.pullFlags.flags = unpackP s.params.bModel s.flags s.pullByte := rfl

@[simp] theorem State.pullFlags_mem (s : State) : s.pullFlags.mem = s.mem := rfl

@[simp] theorem State.pullFlags_prevI (s : State) : s.pullFlags.prevI = some s.flags.i := rfl

@[simp] theorem State.pullFlags_inputs (s : State) : s.pullFlags.inputs = s.inputs := rfl

@[simp] theorem State.pullFlags_draws (s : State) : s.pullFlags.draws = s.draws := rfl

@[simp] theorem State.pullFlags_params (s : State) : s.pullFlags.params = s.params := rfl

/-- ADC with D = 0 (R100). -/
theorem State.adc_binary {s : State} (h : s.flags.d = false) (m : Byte) :
    s.adc m =
      { s with
        a := (addBinary s.a m s.flags.c).r
        flags :=
          { s.flags.setNZ (addBinary s.a m s.flags.c).r with
            c := (addBinary s.a m s.flags.c).c, v := (addBinary s.a m s.flags.c).v } } := by
  simp [State.adc, h]

/-- ADC with D = 1 (R100, spec/40_arithmetic_compare.md R105; log 5). -/
theorem State.adc_decimal {s : State} (h : s.flags.d = true) (m : Byte) :
    s.adc m =
      { s with
        a := (decimalAdc s.a m s.flags.c).a
        flags :=
          { s.flags with
            c := (decimalAdc s.a m s.flags.c).c, z := (decimalAdc s.a m s.flags.c).z
            v := (decimalAdc s.a m s.flags.c).v, n := (decimalAdc s.a m s.flags.c).n } } := by
  simp [State.adc, h]

@[simp] theorem State.adc_x (s : State) (m : Byte) : (s.adc m).x = s.x := by
  unfold State.adc
  split <;> rfl

@[simp] theorem State.adc_y (s : State) (m : Byte) : (s.adc m).y = s.y := by
  unfold State.adc
  split <;> rfl

@[simp] theorem State.adc_sp (s : State) (m : Byte) : (s.adc m).sp = s.sp := by
  unfold State.adc
  split <;> rfl

@[simp] theorem State.adc_pc (s : State) (m : Byte) : (s.adc m).pc = s.pc := by
  unfold State.adc
  split <;> rfl

@[simp] theorem State.adc_mem (s : State) (m : Byte) : (s.adc m).mem = s.mem := by
  unfold State.adc
  split <;> rfl

@[simp] theorem State.adc_prevI (s : State) (m : Byte) : (s.adc m).prevI = s.prevI := by
  unfold State.adc
  split <;> rfl

@[simp] theorem State.adc_inputs (s : State) (m : Byte) : (s.adc m).inputs = s.inputs := by
  unfold State.adc
  split <;> rfl

@[simp] theorem State.adc_draws (s : State) (m : Byte) : (s.adc m).draws = s.draws := by
  unfold State.adc
  split <;> rfl

@[simp] theorem State.adc_params (s : State) (m : Byte) : (s.adc m).params = s.params := by
  unfold State.adc
  split <;> rfl

@[simp] theorem State.adc_flags_i (s : State) (m : Byte) : (s.adc m).flags.i = s.flags.i := by
  unfold State.adc
  split <;> rfl

@[simp] theorem State.adc_flags_d (s : State) (m : Byte) : (s.adc m).flags.d = s.flags.d := by
  unfold State.adc
  split <;> rfl

@[simp] theorem State.adc_flags_b (s : State) (m : Byte) : (s.adc m).flags.b = s.flags.b := by
  unfold State.adc
  split <;> rfl

/-- SBC with D = 0 (R101). -/
theorem State.sbc_binary {s : State} (h : s.flags.d = false) (m : Byte) :
    s.sbc m =
      { s with
        a := (addBinary s.a (~~~m) s.flags.c).r
        flags :=
          { s.flags.setNZ (addBinary s.a (~~~m) s.flags.c).r with
            c := (addBinary s.a (~~~m) s.flags.c).c, v := (addBinary s.a (~~~m) s.flags.c).v } } := by
  simp [State.sbc, h]

/-- SBC with D = 1 (R101, spec/40_arithmetic_compare.md R105; log 5). -/
theorem State.sbc_decimal {s : State} (h : s.flags.d = true) (m : Byte) :
    s.sbc m =
      { s with
        a := (decimalSbc s.a m s.flags.c).a
        flags :=
          { s.flags with
            c := (decimalSbc s.a m s.flags.c).c, z := (decimalSbc s.a m s.flags.c).z
            v := (decimalSbc s.a m s.flags.c).v, n := (decimalSbc s.a m s.flags.c).n } } := by
  simp [State.sbc, h]

@[simp] theorem State.sbc_x (s : State) (m : Byte) : (s.sbc m).x = s.x := by
  unfold State.sbc
  split <;> rfl

@[simp] theorem State.sbc_y (s : State) (m : Byte) : (s.sbc m).y = s.y := by
  unfold State.sbc
  split <;> rfl

@[simp] theorem State.sbc_sp (s : State) (m : Byte) : (s.sbc m).sp = s.sp := by
  unfold State.sbc
  split <;> rfl

@[simp] theorem State.sbc_pc (s : State) (m : Byte) : (s.sbc m).pc = s.pc := by
  unfold State.sbc
  split <;> rfl

@[simp] theorem State.sbc_mem (s : State) (m : Byte) : (s.sbc m).mem = s.mem := by
  unfold State.sbc
  split <;> rfl

@[simp] theorem State.sbc_prevI (s : State) (m : Byte) : (s.sbc m).prevI = s.prevI := by
  unfold State.sbc
  split <;> rfl

@[simp] theorem State.sbc_inputs (s : State) (m : Byte) : (s.sbc m).inputs = s.inputs := by
  unfold State.sbc
  split <;> rfl

@[simp] theorem State.sbc_draws (s : State) (m : Byte) : (s.sbc m).draws = s.draws := by
  unfold State.sbc
  split <;> rfl

@[simp] theorem State.sbc_params (s : State) (m : Byte) : (s.sbc m).params = s.params := by
  unfold State.sbc
  split <;> rfl

@[simp] theorem State.sbc_flags_i (s : State) (m : Byte) : (s.sbc m).flags.i = s.flags.i := by
  unfold State.sbc
  split <;> rfl

@[simp] theorem State.sbc_flags_d (s : State) (m : Byte) : (s.sbc m).flags.d = s.flags.d := by
  unfold State.sbc
  split <;> rfl

@[simp] theorem State.sbc_flags_b (s : State) (m : Byte) : (s.sbc m).flags.b = s.flags.b := by
  unfold State.sbc
  split <;> rfl

theorem State.shiftMem_wf {s : State} (hwf : s.mem.wf = true) (f : Byte → Bool → ShiftResult) (a : Word) :
    (s.shiftMem f a).mem.wf = true :=
  State.write_wf hwf a _

theorem State.incMem_wf {s : State} (hwf : s.mem.wf = true) (a : Word) : (s.incMem a).mem.wf = true :=
  State.write_wf hwf a _

theorem State.decMem_wf {s : State} (hwf : s.mem.wf = true) (a : Word) : (s.decMem a).mem.wf = true :=
  State.write_wf hwf a _

theorem State.call_wf {s : State} (hwf : s.mem.wf = true) (target : Word) : (s.call target).mem.wf = true :=
  State.pushWord_wf hwf _

/-- A memory shift stores at its address and nowhere else (R124). -/
theorem State.read_shiftMem_other (s : State) (f : Byte → Bool → ShiftResult) {a b : Word} (h : b ≠ a) (use : Access) :
    (s.shiftMem f a).read use b = s.read use b :=
  (State.read_congr rfl rfl rfl use b).trans (State.read_write_other s h _ use)

/-- INC and DEC store at their address and nowhere else (R160, R163). -/
theorem State.read_incMem_other (s : State) {a b : Word} (h : b ≠ a) (use : Access) :
    (s.incMem a).read use b = s.read use b :=
  (State.read_congr rfl rfl rfl use b).trans (State.read_write_other s h _ use)

theorem State.read_decMem_other (s : State) {a b : Word} (h : b ≠ a) (use : Access) :
    (s.decMem a).read use b = s.read use b :=
  (State.read_congr rfl rfl rfl use b).trans (State.read_write_other s h _ use)

/-- JSR stores the two bytes of the return address and nothing else (R171). -/
theorem State.read_call_other (s : State) {b : Word} (h0 : b ≠ stackAddr s.sp) (h1 : b ≠ stackAddr (s.sp - 1))
    (target : Word) (use : Access) : (s.call target).read use b = s.read use b :=
  (State.read_congr rfl rfl rfl use b).trans (State.read_pushWord_other s h0 h1 _ use)

/-- The return address that JSR leaves on a RAM stack, the high byte at the old S (R171). -/
theorem State.call_frame {s : State} (hwf : s.mem.wf = true) (h0 : s.kindAt (stackAddr s.sp) = .ram)
    (h1 : s.kindAt (stackAddr (s.sp - 1)) = .ram) (target : Word) (use : Access) :
    (s.call target).read use (stackAddr s.sp) = hiByte (s.pc + 2)
      ∧ (s.call target).read use (stackAddr (s.sp - 1)) = loByte (s.pc + 2) := by
  obtain ⟨n0, -, -⟩ := Byte.sub_one_ne s.sp
  have hpush : ∀ b, (s.call target).read use b = (s.pushWord (s.pc + 2)).read use b := fun b =>
    State.read_congr rfl rfl rfl use b
  constructor
  · rw [hpush, State.pushWord, State.read_push_other _ (by simpa [stackAddr_inj] using n0.symm)]
    exact State.read_push_same hwf h0 _ use
  · rw [hpush]
    exact State.read_push_same (State.push_wf hwf _) h1 _ use

end Sys2Proof.Machine
end

