-- ==== Sys2Proof/Laws/Flags.lean ====
section
/-! SUPPORT. The laws of the flag computations: the packed status byte and the carry of an addition. -/

namespace Sys2Proof.Machine

/-- The eight bits of the packed status byte (R16, R17). -/
theorem packP_bits (f : Flags) (b4 : Bool) :
    (packP f b4).getLsbD 0 = f.c ∧ (packP f b4).getLsbD 1 = f.z ∧ (packP f b4).getLsbD 2 = f.i
      ∧ (packP f b4).getLsbD 3 = f.d ∧ (packP f b4).getLsbD 4 = b4 ∧ (packP f b4).getLsbD 5 = true
      ∧ (packP f b4).getLsbD 6 = f.v ∧ (packP f b4).getLsbD 7 = f.n := by
  obtain ⟨c, z, i, d, b, v, n⟩ := f
  have key : ∀ c z i d v n b4 : Bool,
      let w := BitVec.ofNat 8 (128 * n.toNat + 64 * v.toNat + 32 + 16 * b4.toNat + 8 * d.toNat + 4 * i.toNat
        + 2 * z.toNat + c.toNat)
      w.getLsbD 0 = c ∧ w.getLsbD 1 = z ∧ w.getLsbD 2 = i ∧ w.getLsbD 3 = d ∧ w.getLsbD 4 = b4
        ∧ w.getLsbD 5 = true ∧ w.getLsbD 6 = v ∧ w.getLsbD 7 = n := by decide
  exact key c z i d v n b4

/-- Loading a packed status byte gives the flags back, with B from bit 4 where B is stored (R17, R18). -/
theorem unpackP_packP (m : Config.BModel) (f g : Flags) (b4 : Bool) :
    unpackP m g (packP f b4) =
      { f with b := match m with
                    | .latch => b4
                    | .pushedOnly => g.b } := by
  obtain ⟨h0, h1, h2, h3, h4, -, h6, h7⟩ := packP_bits f b4
  cases m <;> simp only [unpackP, h0, h1, h2, h3, h4, h6, h7]

/-- The result and the carry of `AddBinary` are the two parts of the exact sum (R106). -/
theorem addBinary_sum (a m : Byte) (c : Bool) :
    (addBinary a m c).r.toNat + 256 * (addBinary a m c).c.toNat = a.toNat + m.toNat + c.toNat := by
  have ha := a.isLt
  have hm := m.isLt
  have hc := c.toNat_le
  simp only [addBinary, BitVec.toNat_ofNat]
  by_cases h : 256 ≤ a.toNat + m.toNat + c.toNat <;> simp [h] <;> omega

end Sys2Proof.Machine
end

