-- ==== Sys2Proof/Laws/Operands.lean ====
section
/-! SUPPORT. The laws of the addressing modes: effective addresses as numbers (spec/30_encoding.md R56 to R65). -/

namespace Sys2Proof.Machine

@[simp] theorem zeroPage_toNat (b : Byte) : (zeroPage b).toNat = b.toNat := by
  simp [zeroPage, wordOf_toNat]

theorem eaAbsX_toNat (s : State) (addr : Word) : (eaAbsX s addr).toNat = (addr.toNat + s.x.toNat) % 65536 := by
  have := s.x.isLt
  simp [eaAbsX]

theorem eaAbsY_toNat (s : State) (addr : Word) : (eaAbsY s addr).toNat = (addr.toNat + s.y.toNat) % 65536 := by
  have := s.y.isLt
  simp [eaAbsY]

theorem zeroPagePointer_toNat (s : State) (p : Byte) :
    (zeroPagePointer s p).toNat
      = (s.read .pointer (zeroPage (p + 1))).toNat * 256 + (s.read .pointer (zeroPage p)).toNat :=
  wordOf_toNat _ _

end Sys2Proof.Machine
end

