-- ==== Sys2Proof/Laws/PerInstr.lean ====
section
/-! SUPPORT. Per-instruction laws. `EncodedForm`: the encoding begins with an opcode byte that the opcode map has, and is as
long as that byte alone says (spec/30_encoding.md R50, R52). -/

/-- The encoding of `i` is an opcode byte with its operand bytes, as many as the opcode byte's form says. -/
def Sys2Proof.Laws.EncodedForm.Statement (i : Sys2Proof.Instr) : Prop :=
  ∃ op operands f, Sys2Proof.encode i = op :: operands ∧ Sys2Proof.lookup op = some f
    ∧ (Sys2Proof.encode i).length = f.length

theorem Sys2Proof.Laws.EncodedForm.adcImm (imm : Sys2Proof.Byte) : Sys2Proof.Laws.EncodedForm.Statement (.adcImm imm) :=
  ⟨_, _, _, rfl, rfl, rfl⟩

theorem Sys2Proof.Laws.EncodedForm.adcZp (zp : Sys2Proof.Byte) : Sys2Proof.Laws.EncodedForm.Statement (.adcZp zp) :=
  ⟨_, _, _, rfl, rfl, rfl⟩

theorem Sys2Proof.Laws.EncodedForm.adcZpX (zp : Sys2Proof.Byte) : Sys2Proof.Laws.EncodedForm.Statement (.adcZpX zp) :=
  ⟨_, _, _, rfl, rfl, rfl⟩

theorem Sys2Proof.Laws.EncodedForm.adcAbs (addr : Sys2Proof.Word) : Sys2Proof.Laws.EncodedForm.Statement (.adcAbs addr) :=
  ⟨_, _, _, rfl, rfl, rfl⟩

theorem Sys2Proof.Laws.EncodedForm.adcAbsX (addr : Sys2Proof.Word) : Sys2Proof.Laws.EncodedForm.Statement (.adcAbsX addr) :=
  ⟨_, _, _, rfl, rfl, rfl⟩

theorem Sys2Proof.Laws.EncodedForm.adcAbsY (addr : Sys2Proof.Word) : Sys2Proof.Laws.EncodedForm.Statement (.adcAbsY addr) :=
  ⟨_, _, _, rfl, rfl, rfl⟩

theorem Sys2Proof.Laws.EncodedForm.adcIndX (zp : Sys2Proof.Byte) : Sys2Proof.Laws.EncodedForm.Statement (.adcIndX zp) :=
  ⟨_, _, _, rfl, rfl, rfl⟩

theorem Sys2Proof.Laws.EncodedForm.adcIndY (zp : Sys2Proof.Byte) : Sys2Proof.Laws.EncodedForm.Statement (.adcIndY zp) :=
  ⟨_, _, _, rfl, rfl, rfl⟩

theorem Sys2Proof.Laws.EncodedForm.sbcImm (imm : Sys2Proof.Byte) : Sys2Proof.Laws.EncodedForm.Statement (.sbcImm imm) :=
  ⟨_, _, _, rfl, rfl, rfl⟩

theorem Sys2Proof.Laws.EncodedForm.sbcZp (zp : Sys2Proof.Byte) : Sys2Proof.Laws.EncodedForm.Statement (.sbcZp zp) :=
  ⟨_, _, _, rfl, rfl, rfl⟩

theorem Sys2Proof.Laws.EncodedForm.sbcZpX (zp : Sys2Proof.Byte) : Sys2Proof.Laws.EncodedForm.Statement (.sbcZpX zp) :=
  ⟨_, _, _, rfl, rfl, rfl⟩

theorem Sys2Proof.Laws.EncodedForm.sbcAbs (addr : Sys2Proof.Word) : Sys2Proof.Laws.EncodedForm.Statement (.sbcAbs addr) :=
  ⟨_, _, _, rfl, rfl, rfl⟩

theorem Sys2Proof.Laws.EncodedForm.sbcAbsX (addr : Sys2Proof.Word) : Sys2Proof.Laws.EncodedForm.Statement (.sbcAbsX addr) :=
  ⟨_, _, _, rfl, rfl, rfl⟩

theorem Sys2Proof.Laws.EncodedForm.sbcAbsY (addr : Sys2Proof.Word) : Sys2Proof.Laws.EncodedForm.Statement (.sbcAbsY addr) :=
  ⟨_, _, _, rfl, rfl, rfl⟩

theorem Sys2Proof.Laws.EncodedForm.sbcIndX (zp : Sys2Proof.Byte) : Sys2Proof.Laws.EncodedForm.Statement (.sbcIndX zp) :=
  ⟨_, _, _, rfl, rfl, rfl⟩

theorem Sys2Proof.Laws.EncodedForm.sbcIndY (zp : Sys2Proof.Byte) : Sys2Proof.Laws.EncodedForm.Statement (.sbcIndY zp) :=
  ⟨_, _, _, rfl, rfl, rfl⟩

theorem Sys2Proof.Laws.EncodedForm.cmpImm (imm : Sys2Proof.Byte) : Sys2Proof.Laws.EncodedForm.Statement (.cmpImm imm) :=
  ⟨_, _, _, rfl, rfl, rfl⟩

theorem Sys2Proof.Laws.EncodedForm.cmpZp (zp : Sys2Proof.Byte) : Sys2Proof.Laws.EncodedForm.Statement (.cmpZp zp) :=
  ⟨_, _, _, rfl, rfl, rfl⟩

theorem Sys2Proof.Laws.EncodedForm.cmpZpX (zp : Sys2Proof.Byte) : Sys2Proof.Laws.EncodedForm.Statement (.cmpZpX zp) :=
  ⟨_, _, _, rfl, rfl, rfl⟩

theorem Sys2Proof.Laws.EncodedForm.cmpAbs (addr : Sys2Proof.Word) : Sys2Proof.Laws.EncodedForm.Statement (.cmpAbs addr) :=
  ⟨_, _, _, rfl, rfl, rfl⟩

theorem Sys2Proof.Laws.EncodedForm.cmpAbsX (addr : Sys2Proof.Word) : Sys2Proof.Laws.EncodedForm.Statement (.cmpAbsX addr) :=
  ⟨_, _, _, rfl, rfl, rfl⟩

theorem Sys2Proof.Laws.EncodedForm.cmpAbsY (addr : Sys2Proof.Word) : Sys2Proof.Laws.EncodedForm.Statement (.cmpAbsY addr) :=
  ⟨_, _, _, rfl, rfl, rfl⟩

theorem Sys2Proof.Laws.EncodedForm.cmpIndX (zp : Sys2Proof.Byte) : Sys2Proof.Laws.EncodedForm.Statement (.cmpIndX zp) :=
  ⟨_, _, _, rfl, rfl, rfl⟩

theorem Sys2Proof.Laws.EncodedForm.cmpIndY (zp : Sys2Proof.Byte) : Sys2Proof.Laws.EncodedForm.Statement (.cmpIndY zp) :=
  ⟨_, _, _, rfl, rfl, rfl⟩

theorem Sys2Proof.Laws.EncodedForm.cpxImm (imm : Sys2Proof.Byte) : Sys2Proof.Laws.EncodedForm.Statement (.cpxImm imm) :=
  ⟨_, _, _, rfl, rfl, rfl⟩

theorem Sys2Proof.Laws.EncodedForm.cpxZp (zp : Sys2Proof.Byte) : Sys2Proof.Laws.EncodedForm.Statement (.cpxZp zp) :=
  ⟨_, _, _, rfl, rfl, rfl⟩

theorem Sys2Proof.Laws.EncodedForm.cpxAbs (addr : Sys2Proof.Word) : Sys2Proof.Laws.EncodedForm.Statement (.cpxAbs addr) :=
  ⟨_, _, _, rfl, rfl, rfl⟩

theorem Sys2Proof.Laws.EncodedForm.cpyImm (imm : Sys2Proof.Byte) : Sys2Proof.Laws.EncodedForm.Statement (.cpyImm imm) :=
  ⟨_, _, _, rfl, rfl, rfl⟩

theorem Sys2Proof.Laws.EncodedForm.cpyZp (zp : Sys2Proof.Byte) : Sys2Proof.Laws.EncodedForm.Statement (.cpyZp zp) :=
  ⟨_, _, _, rfl, rfl, rfl⟩

theorem Sys2Proof.Laws.EncodedForm.cpyAbs (addr : Sys2Proof.Word) : Sys2Proof.Laws.EncodedForm.Statement (.cpyAbs addr) :=
  ⟨_, _, _, rfl, rfl, rfl⟩

theorem Sys2Proof.Laws.EncodedForm.andImm (imm : Sys2Proof.Byte) : Sys2Proof.Laws.EncodedForm.Statement (.andImm imm) :=
  ⟨_, _, _, rfl, rfl, rfl⟩

theorem Sys2Proof.Laws.EncodedForm.andZp (zp : Sys2Proof.Byte) : Sys2Proof.Laws.EncodedForm.Statement (.andZp zp) :=
  ⟨_, _, _, rfl, rfl, rfl⟩

theorem Sys2Proof.Laws.EncodedForm.andZpX (zp : Sys2Proof.Byte) : Sys2Proof.Laws.EncodedForm.Statement (.andZpX zp) :=
  ⟨_, _, _, rfl, rfl, rfl⟩

theorem Sys2Proof.Laws.EncodedForm.andAbs (addr : Sys2Proof.Word) : Sys2Proof.Laws.EncodedForm.Statement (.andAbs addr) :=
  ⟨_, _, _, rfl, rfl, rfl⟩

theorem Sys2Proof.Laws.EncodedForm.andAbsX (addr : Sys2Proof.Word) : Sys2Proof.Laws.EncodedForm.Statement (.andAbsX addr) :=
  ⟨_, _, _, rfl, rfl, rfl⟩

theorem Sys2Proof.Laws.EncodedForm.andAbsY (addr : Sys2Proof.Word) : Sys2Proof.Laws.EncodedForm.Statement (.andAbsY addr) :=
  ⟨_, _, _, rfl, rfl, rfl⟩

theorem Sys2Proof.Laws.EncodedForm.andIndX (zp : Sys2Proof.Byte) : Sys2Proof.Laws.EncodedForm.Statement (.andIndX zp) :=
  ⟨_, _, _, rfl, rfl, rfl⟩

theorem Sys2Proof.Laws.EncodedForm.andIndY (zp : Sys2Proof.Byte) : Sys2Proof.Laws.EncodedForm.Statement (.andIndY zp) :=
  ⟨_, _, _, rfl, rfl, rfl⟩

theorem Sys2Proof.Laws.EncodedForm.bitZp (zp : Sys2Proof.Byte) : Sys2Proof.Laws.EncodedForm.Statement (.bitZp zp) :=
  ⟨_, _, _, rfl, rfl, rfl⟩

theorem Sys2Proof.Laws.EncodedForm.bitAbs (addr : Sys2Proof.Word) : Sys2Proof.Laws.EncodedForm.Statement (.bitAbs addr) :=
  ⟨_, _, _, rfl, rfl, rfl⟩

theorem Sys2Proof.Laws.EncodedForm.eorImm (imm : Sys2Proof.Byte) : Sys2Proof.Laws.EncodedForm.Statement (.eorImm imm) :=
  ⟨_, _, _, rfl, rfl, rfl⟩

theorem Sys2Proof.Laws.EncodedForm.eorZp (zp : Sys2Proof.Byte) : Sys2Proof.Laws.EncodedForm.Statement (.eorZp zp) :=
  ⟨_, _, _, rfl, rfl, rfl⟩

theorem Sys2Proof.Laws.EncodedForm.eorZpX (zp : Sys2Proof.Byte) : Sys2Proof.Laws.EncodedForm.Statement (.eorZpX zp) :=
  ⟨_, _, _, rfl, rfl, rfl⟩

theorem Sys2Proof.Laws.EncodedForm.eorAbs (addr : Sys2Proof.Word) : Sys2Proof.Laws.EncodedForm.Statement (.eorAbs addr) :=
  ⟨_, _, _, rfl, rfl, rfl⟩

theorem Sys2Proof.Laws.EncodedForm.eorAbsX (addr : Sys2Proof.Word) : Sys2Proof.Laws.EncodedForm.Statement (.eorAbsX addr) :=
  ⟨_, _, _, rfl, rfl, rfl⟩

theorem Sys2Proof.Laws.EncodedForm.eorAbsY (addr : Sys2Proof.Word) : Sys2Proof.Laws.EncodedForm.Statement (.eorAbsY addr) :=
  ⟨_, _, _, rfl, rfl, rfl⟩

theorem Sys2Proof.Laws.EncodedForm.eorIndX (zp : Sys2Proof.Byte) : Sys2Proof.Laws.EncodedForm.Statement (.eorIndX zp) :=
  ⟨_, _, _, rfl, rfl, rfl⟩

theorem Sys2Proof.Laws.EncodedForm.eorIndY (zp : Sys2Proof.Byte) : Sys2Proof.Laws.EncodedForm.Statement (.eorIndY zp) :=
  ⟨_, _, _, rfl, rfl, rfl⟩

theorem Sys2Proof.Laws.EncodedForm.oraImm (imm : Sys2Proof.Byte) : Sys2Proof.Laws.EncodedForm.Statement (.oraImm imm) :=
  ⟨_, _, _, rfl, rfl, rfl⟩

theorem Sys2Proof.Laws.EncodedForm.oraZp (zp : Sys2Proof.Byte) : Sys2Proof.Laws.EncodedForm.Statement (.oraZp zp) :=
  ⟨_, _, _, rfl, rfl, rfl⟩

theorem Sys2Proof.Laws.EncodedForm.oraZpX (zp : Sys2Proof.Byte) : Sys2Proof.Laws.EncodedForm.Statement (.oraZpX zp) :=
  ⟨_, _, _, rfl, rfl, rfl⟩

theorem Sys2Proof.Laws.EncodedForm.oraAbs (addr : Sys2Proof.Word) : Sys2Proof.Laws.EncodedForm.Statement (.oraAbs addr) :=
  ⟨_, _, _, rfl, rfl, rfl⟩

theorem Sys2Proof.Laws.EncodedForm.oraAbsX (addr : Sys2Proof.Word) : Sys2Proof.Laws.EncodedForm.Statement (.oraAbsX addr) :=
  ⟨_, _, _, rfl, rfl, rfl⟩

theorem Sys2Proof.Laws.EncodedForm.oraAbsY (addr : Sys2Proof.Word) : Sys2Proof.Laws.EncodedForm.Statement (.oraAbsY addr) :=
  ⟨_, _, _, rfl, rfl, rfl⟩

theorem Sys2Proof.Laws.EncodedForm.oraIndX (zp : Sys2Proof.Byte) : Sys2Proof.Laws.EncodedForm.Statement (.oraIndX zp) :=
  ⟨_, _, _, rfl, rfl, rfl⟩

theorem Sys2Proof.Laws.EncodedForm.oraIndY (zp : Sys2Proof.Byte) : Sys2Proof.Laws.EncodedForm.Statement (.oraIndY zp) :=
  ⟨_, _, _, rfl, rfl, rfl⟩

theorem Sys2Proof.Laws.EncodedForm.aslAcc : Sys2Proof.Laws.EncodedForm.Statement .aslAcc :=
  ⟨_, _, _, rfl, rfl, rfl⟩

theorem Sys2Proof.Laws.EncodedForm.aslZp (zp : Sys2Proof.Byte) : Sys2Proof.Laws.EncodedForm.Statement (.aslZp zp) :=
  ⟨_, _, _, rfl, rfl, rfl⟩

theorem Sys2Proof.Laws.EncodedForm.aslZpX (zp : Sys2Proof.Byte) : Sys2Proof.Laws.EncodedForm.Statement (.aslZpX zp) :=
  ⟨_, _, _, rfl, rfl, rfl⟩

theorem Sys2Proof.Laws.EncodedForm.aslAbs (addr : Sys2Proof.Word) : Sys2Proof.Laws.EncodedForm.Statement (.aslAbs addr) :=
  ⟨_, _, _, rfl, rfl, rfl⟩

theorem Sys2Proof.Laws.EncodedForm.aslAbsX (addr : Sys2Proof.Word) : Sys2Proof.Laws.EncodedForm.Statement (.aslAbsX addr) :=
  ⟨_, _, _, rfl, rfl, rfl⟩

theorem Sys2Proof.Laws.EncodedForm.lsrAcc : Sys2Proof.Laws.EncodedForm.Statement .lsrAcc :=
  ⟨_, _, _, rfl, rfl, rfl⟩

theorem Sys2Proof.Laws.EncodedForm.lsrZp (zp : Sys2Proof.Byte) : Sys2Proof.Laws.EncodedForm.Statement (.lsrZp zp) :=
  ⟨_, _, _, rfl, rfl, rfl⟩

theorem Sys2Proof.Laws.EncodedForm.lsrZpX (zp : Sys2Proof.Byte) : Sys2Proof.Laws.EncodedForm.Statement (.lsrZpX zp) :=
  ⟨_, _, _, rfl, rfl, rfl⟩

theorem Sys2Proof.Laws.EncodedForm.lsrAbs (addr : Sys2Proof.Word) : Sys2Proof.Laws.EncodedForm.Statement (.lsrAbs addr) :=
  ⟨_, _, _, rfl, rfl, rfl⟩

theorem Sys2Proof.Laws.EncodedForm.lsrAbsX (addr : Sys2Proof.Word) : Sys2Proof.Laws.EncodedForm.Statement (.lsrAbsX addr) :=
  ⟨_, _, _, rfl, rfl, rfl⟩

theorem Sys2Proof.Laws.EncodedForm.rolAcc : Sys2Proof.Laws.EncodedForm.Statement .rolAcc :=
  ⟨_, _, _, rfl, rfl, rfl⟩

theorem Sys2Proof.Laws.EncodedForm.rolZp (zp : Sys2Proof.Byte) : Sys2Proof.Laws.EncodedForm.Statement (.rolZp zp) :=
  ⟨_, _, _, rfl, rfl, rfl⟩

theorem Sys2Proof.Laws.EncodedForm.rolZpX (zp : Sys2Proof.Byte) : Sys2Proof.Laws.EncodedForm.Statement (.rolZpX zp) :=
  ⟨_, _, _, rfl, rfl, rfl⟩

theorem Sys2Proof.Laws.EncodedForm.rolAbs (addr : Sys2Proof.Word) : Sys2Proof.Laws.EncodedForm.Statement (.rolAbs addr) :=
  ⟨_, _, _, rfl, rfl, rfl⟩

theorem Sys2Proof.Laws.EncodedForm.rolAbsX (addr : Sys2Proof.Word) : Sys2Proof.Laws.EncodedForm.Statement (.rolAbsX addr) :=
  ⟨_, _, _, rfl, rfl, rfl⟩

theorem Sys2Proof.Laws.EncodedForm.rorAcc : Sys2Proof.Laws.EncodedForm.Statement .rorAcc :=
  ⟨_, _, _, rfl, rfl, rfl⟩

theorem Sys2Proof.Laws.EncodedForm.rorZp (zp : Sys2Proof.Byte) : Sys2Proof.Laws.EncodedForm.Statement (.rorZp zp) :=
  ⟨_, _, _, rfl, rfl, rfl⟩

theorem Sys2Proof.Laws.EncodedForm.rorZpX (zp : Sys2Proof.Byte) : Sys2Proof.Laws.EncodedForm.Statement (.rorZpX zp) :=
  ⟨_, _, _, rfl, rfl, rfl⟩

theorem Sys2Proof.Laws.EncodedForm.rorAbs (addr : Sys2Proof.Word) : Sys2Proof.Laws.EncodedForm.Statement (.rorAbs addr) :=
  ⟨_, _, _, rfl, rfl, rfl⟩

theorem Sys2Proof.Laws.EncodedForm.rorAbsX (addr : Sys2Proof.Word) : Sys2Proof.Laws.EncodedForm.Statement (.rorAbsX addr) :=
  ⟨_, _, _, rfl, rfl, rfl⟩

theorem Sys2Proof.Laws.EncodedForm.bcc (rel : Sys2Proof.Byte) : Sys2Proof.Laws.EncodedForm.Statement (.bcc rel) :=
  ⟨_, _, _, rfl, rfl, rfl⟩

theorem Sys2Proof.Laws.EncodedForm.bcs (rel : Sys2Proof.Byte) : Sys2Proof.Laws.EncodedForm.Statement (.bcs rel) :=
  ⟨_, _, _, rfl, rfl, rfl⟩

theorem Sys2Proof.Laws.EncodedForm.beq (rel : Sys2Proof.Byte) : Sys2Proof.Laws.EncodedForm.Statement (.beq rel) :=
  ⟨_, _, _, rfl, rfl, rfl⟩

theorem Sys2Proof.Laws.EncodedForm.bmi (rel : Sys2Proof.Byte) : Sys2Proof.Laws.EncodedForm.Statement (.bmi rel) :=
  ⟨_, _, _, rfl, rfl, rfl⟩

theorem Sys2Proof.Laws.EncodedForm.bne (rel : Sys2Proof.Byte) : Sys2Proof.Laws.EncodedForm.Statement (.bne rel) :=
  ⟨_, _, _, rfl, rfl, rfl⟩

theorem Sys2Proof.Laws.EncodedForm.bpl (rel : Sys2Proof.Byte) : Sys2Proof.Laws.EncodedForm.Statement (.bpl rel) :=
  ⟨_, _, _, rfl, rfl, rfl⟩

theorem Sys2Proof.Laws.EncodedForm.bvc (rel : Sys2Proof.Byte) : Sys2Proof.Laws.EncodedForm.Statement (.bvc rel) :=
  ⟨_, _, _, rfl, rfl, rfl⟩

theorem Sys2Proof.Laws.EncodedForm.bvs (rel : Sys2Proof.Byte) : Sys2Proof.Laws.EncodedForm.Statement (.bvs rel) :=
  ⟨_, _, _, rfl, rfl, rfl⟩

theorem Sys2Proof.Laws.EncodedForm.brk : Sys2Proof.Laws.EncodedForm.Statement .brk :=
  ⟨_, _, _, rfl, rfl, rfl⟩

theorem Sys2Proof.Laws.EncodedForm.nop : Sys2Proof.Laws.EncodedForm.Statement .nop :=
  ⟨_, _, _, rfl, rfl, rfl⟩

theorem Sys2Proof.Laws.EncodedForm.rti : Sys2Proof.Laws.EncodedForm.Statement .rti :=
  ⟨_, _, _, rfl, rfl, rfl⟩

theorem Sys2Proof.Laws.EncodedForm.clc : Sys2Proof.Laws.EncodedForm.Statement .clc :=
  ⟨_, _, _, rfl, rfl, rfl⟩

theorem Sys2Proof.Laws.EncodedForm.cld : Sys2Proof.Laws.EncodedForm.Statement .cld :=
  ⟨_, _, _, rfl, rfl, rfl⟩

theorem Sys2Proof.Laws.EncodedForm.cli : Sys2Proof.Laws.EncodedForm.Statement .cli :=
  ⟨_, _, _, rfl, rfl, rfl⟩

theorem Sys2Proof.Laws.EncodedForm.clv : Sys2Proof.Laws.EncodedForm.Statement .clv :=
  ⟨_, _, _, rfl, rfl, rfl⟩

theorem Sys2Proof.Laws.EncodedForm.sec : Sys2Proof.Laws.EncodedForm.Statement .sec :=
  ⟨_, _, _, rfl, rfl, rfl⟩

theorem Sys2Proof.Laws.EncodedForm.sed : Sys2Proof.Laws.EncodedForm.Statement .sed :=
  ⟨_, _, _, rfl, rfl, rfl⟩

theorem Sys2Proof.Laws.EncodedForm.sei : Sys2Proof.Laws.EncodedForm.Statement .sei :=
  ⟨_, _, _, rfl, rfl, rfl⟩

theorem Sys2Proof.Laws.EncodedForm.decZp (zp : Sys2Proof.Byte) : Sys2Proof.Laws.EncodedForm.Statement (.decZp zp) :=
  ⟨_, _, _, rfl, rfl, rfl⟩

theorem Sys2Proof.Laws.EncodedForm.decZpX (zp : Sys2Proof.Byte) : Sys2Proof.Laws.EncodedForm.Statement (.decZpX zp) :=
  ⟨_, _, _, rfl, rfl, rfl⟩

theorem Sys2Proof.Laws.EncodedForm.decAbs (addr : Sys2Proof.Word) : Sys2Proof.Laws.EncodedForm.Statement (.decAbs addr) :=
  ⟨_, _, _, rfl, rfl, rfl⟩

theorem Sys2Proof.Laws.EncodedForm.decAbsX (addr : Sys2Proof.Word) : Sys2Proof.Laws.EncodedForm.Statement (.decAbsX addr) :=
  ⟨_, _, _, rfl, rfl, rfl⟩

theorem Sys2Proof.Laws.EncodedForm.dex : Sys2Proof.Laws.EncodedForm.Statement .dex :=
  ⟨_, _, _, rfl, rfl, rfl⟩

theorem Sys2Proof.Laws.EncodedForm.dey : Sys2Proof.Laws.EncodedForm.Statement .dey :=
  ⟨_, _, _, rfl, rfl, rfl⟩

theorem Sys2Proof.Laws.EncodedForm.incZp (zp : Sys2Proof.Byte) : Sys2Proof.Laws.EncodedForm.Statement (.incZp zp) :=
  ⟨_, _, _, rfl, rfl, rfl⟩

theorem Sys2Proof.Laws.EncodedForm.incZpX (zp : Sys2Proof.Byte) : Sys2Proof.Laws.EncodedForm.Statement (.incZpX zp) :=
  ⟨_, _, _, rfl, rfl, rfl⟩

theorem Sys2Proof.Laws.EncodedForm.incAbs (addr : Sys2Proof.Word) : Sys2Proof.Laws.EncodedForm.Statement (.incAbs addr) :=
  ⟨_, _, _, rfl, rfl, rfl⟩

theorem Sys2Proof.Laws.EncodedForm.incAbsX (addr : Sys2Proof.Word) : Sys2Proof.Laws.EncodedForm.Statement (.incAbsX addr) :=
  ⟨_, _, _, rfl, rfl, rfl⟩

theorem Sys2Proof.Laws.EncodedForm.inx : Sys2Proof.Laws.EncodedForm.Statement .inx :=
  ⟨_, _, _, rfl, rfl, rfl⟩

theorem Sys2Proof.Laws.EncodedForm.iny : Sys2Proof.Laws.EncodedForm.Statement .iny :=
  ⟨_, _, _, rfl, rfl, rfl⟩

theorem Sys2Proof.Laws.EncodedForm.jmpAbs (addr : Sys2Proof.Word) : Sys2Proof.Laws.EncodedForm.Statement (.jmpAbs addr) :=
  ⟨_, _, _, rfl, rfl, rfl⟩

theorem Sys2Proof.Laws.EncodedForm.jmpInd (addr : Sys2Proof.Word) : Sys2Proof.Laws.EncodedForm.Statement (.jmpInd addr) :=
  ⟨_, _, _, rfl, rfl, rfl⟩

theorem Sys2Proof.Laws.EncodedForm.jsr (addr : Sys2Proof.Word) : Sys2Proof.Laws.EncodedForm.Statement (.jsr addr) :=
  ⟨_, _, _, rfl, rfl, rfl⟩

theorem Sys2Proof.Laws.EncodedForm.rts : Sys2Proof.Laws.EncodedForm.Statement .rts :=
  ⟨_, _, _, rfl, rfl, rfl⟩

theorem Sys2Proof.Laws.EncodedForm.ldaImm (imm : Sys2Proof.Byte) : Sys2Proof.Laws.EncodedForm.Statement (.ldaImm imm) :=
  ⟨_, _, _, rfl, rfl, rfl⟩

theorem Sys2Proof.Laws.EncodedForm.ldaZp (zp : Sys2Proof.Byte) : Sys2Proof.Laws.EncodedForm.Statement (.ldaZp zp) :=
  ⟨_, _, _, rfl, rfl, rfl⟩

theorem Sys2Proof.Laws.EncodedForm.ldaZpX (zp : Sys2Proof.Byte) : Sys2Proof.Laws.EncodedForm.Statement (.ldaZpX zp) :=
  ⟨_, _, _, rfl, rfl, rfl⟩

theorem Sys2Proof.Laws.EncodedForm.ldaAbs (addr : Sys2Proof.Word) : Sys2Proof.Laws.EncodedForm.Statement (.ldaAbs addr) :=
  ⟨_, _, _, rfl, rfl, rfl⟩

theorem Sys2Proof.Laws.EncodedForm.ldaAbsX (addr : Sys2Proof.Word) : Sys2Proof.Laws.EncodedForm.Statement (.ldaAbsX addr) :=
  ⟨_, _, _, rfl, rfl, rfl⟩

theorem Sys2Proof.Laws.EncodedForm.ldaAbsY (addr : Sys2Proof.Word) : Sys2Proof.Laws.EncodedForm.Statement (.ldaAbsY addr) :=
  ⟨_, _, _, rfl, rfl, rfl⟩

theorem Sys2Proof.Laws.EncodedForm.ldaIndX (zp : Sys2Proof.Byte) : Sys2Proof.Laws.EncodedForm.Statement (.ldaIndX zp) :=
  ⟨_, _, _, rfl, rfl, rfl⟩

theorem Sys2Proof.Laws.EncodedForm.ldaIndY (zp : Sys2Proof.Byte) : Sys2Proof.Laws.EncodedForm.Statement (.ldaIndY zp) :=
  ⟨_, _, _, rfl, rfl, rfl⟩

theorem Sys2Proof.Laws.EncodedForm.ldxImm (imm : Sys2Proof.Byte) : Sys2Proof.Laws.EncodedForm.Statement (.ldxImm imm) :=
  ⟨_, _, _, rfl, rfl, rfl⟩

theorem Sys2Proof.Laws.EncodedForm.ldxZp (zp : Sys2Proof.Byte) : Sys2Proof.Laws.EncodedForm.Statement (.ldxZp zp) :=
  ⟨_, _, _, rfl, rfl, rfl⟩

theorem Sys2Proof.Laws.EncodedForm.ldxZpY (zp : Sys2Proof.Byte) : Sys2Proof.Laws.EncodedForm.Statement (.ldxZpY zp) :=
  ⟨_, _, _, rfl, rfl, rfl⟩

theorem Sys2Proof.Laws.EncodedForm.ldxAbs (addr : Sys2Proof.Word) : Sys2Proof.Laws.EncodedForm.Statement (.ldxAbs addr) :=
  ⟨_, _, _, rfl, rfl, rfl⟩

theorem Sys2Proof.Laws.EncodedForm.ldxAbsY (addr : Sys2Proof.Word) : Sys2Proof.Laws.EncodedForm.Statement (.ldxAbsY addr) :=
  ⟨_, _, _, rfl, rfl, rfl⟩

theorem Sys2Proof.Laws.EncodedForm.ldyImm (imm : Sys2Proof.Byte) : Sys2Proof.Laws.EncodedForm.Statement (.ldyImm imm) :=
  ⟨_, _, _, rfl, rfl, rfl⟩

theorem Sys2Proof.Laws.EncodedForm.ldyZp (zp : Sys2Proof.Byte) : Sys2Proof.Laws.EncodedForm.Statement (.ldyZp zp) :=
  ⟨_, _, _, rfl, rfl, rfl⟩

theorem Sys2Proof.Laws.EncodedForm.ldyZpX (zp : Sys2Proof.Byte) : Sys2Proof.Laws.EncodedForm.Statement (.ldyZpX zp) :=
  ⟨_, _, _, rfl, rfl, rfl⟩

theorem Sys2Proof.Laws.EncodedForm.ldyAbs (addr : Sys2Proof.Word) : Sys2Proof.Laws.EncodedForm.Statement (.ldyAbs addr) :=
  ⟨_, _, _, rfl, rfl, rfl⟩

theorem Sys2Proof.Laws.EncodedForm.ldyAbsX (addr : Sys2Proof.Word) : Sys2Proof.Laws.EncodedForm.Statement (.ldyAbsX addr) :=
  ⟨_, _, _, rfl, rfl, rfl⟩

theorem Sys2Proof.Laws.EncodedForm.staZp (zp : Sys2Proof.Byte) : Sys2Proof.Laws.EncodedForm.Statement (.staZp zp) :=
  ⟨_, _, _, rfl, rfl, rfl⟩

theorem Sys2Proof.Laws.EncodedForm.staZpX (zp : Sys2Proof.Byte) : Sys2Proof.Laws.EncodedForm.Statement (.staZpX zp) :=
  ⟨_, _, _, rfl, rfl, rfl⟩

theorem Sys2Proof.Laws.EncodedForm.staAbs (addr : Sys2Proof.Word) : Sys2Proof.Laws.EncodedForm.Statement (.staAbs addr) :=
  ⟨_, _, _, rfl, rfl, rfl⟩

theorem Sys2Proof.Laws.EncodedForm.staAbsX (addr : Sys2Proof.Word) : Sys2Proof.Laws.EncodedForm.Statement (.staAbsX addr) :=
  ⟨_, _, _, rfl, rfl, rfl⟩

theorem Sys2Proof.Laws.EncodedForm.staAbsY (addr : Sys2Proof.Word) : Sys2Proof.Laws.EncodedForm.Statement (.staAbsY addr) :=
  ⟨_, _, _, rfl, rfl, rfl⟩

theorem Sys2Proof.Laws.EncodedForm.staIndX (zp : Sys2Proof.Byte) : Sys2Proof.Laws.EncodedForm.Statement (.staIndX zp) :=
  ⟨_, _, _, rfl, rfl, rfl⟩

theorem Sys2Proof.Laws.EncodedForm.staIndY (zp : Sys2Proof.Byte) : Sys2Proof.Laws.EncodedForm.Statement (.staIndY zp) :=
  ⟨_, _, _, rfl, rfl, rfl⟩

theorem Sys2Proof.Laws.EncodedForm.stxZp (zp : Sys2Proof.Byte) : Sys2Proof.Laws.EncodedForm.Statement (.stxZp zp) :=
  ⟨_, _, _, rfl, rfl, rfl⟩

theorem Sys2Proof.Laws.EncodedForm.stxZpY (zp : Sys2Proof.Byte) : Sys2Proof.Laws.EncodedForm.Statement (.stxZpY zp) :=
  ⟨_, _, _, rfl, rfl, rfl⟩

theorem Sys2Proof.Laws.EncodedForm.stxAbs (addr : Sys2Proof.Word) : Sys2Proof.Laws.EncodedForm.Statement (.stxAbs addr) :=
  ⟨_, _, _, rfl, rfl, rfl⟩

theorem Sys2Proof.Laws.EncodedForm.styZp (zp : Sys2Proof.Byte) : Sys2Proof.Laws.EncodedForm.Statement (.styZp zp) :=
  ⟨_, _, _, rfl, rfl, rfl⟩

theorem Sys2Proof.Laws.EncodedForm.styZpX (zp : Sys2Proof.Byte) : Sys2Proof.Laws.EncodedForm.Statement (.styZpX zp) :=
  ⟨_, _, _, rfl, rfl, rfl⟩

theorem Sys2Proof.Laws.EncodedForm.styAbs (addr : Sys2Proof.Word) : Sys2Proof.Laws.EncodedForm.Statement (.styAbs addr) :=
  ⟨_, _, _, rfl, rfl, rfl⟩

theorem Sys2Proof.Laws.EncodedForm.pha : Sys2Proof.Laws.EncodedForm.Statement .pha :=
  ⟨_, _, _, rfl, rfl, rfl⟩

theorem Sys2Proof.Laws.EncodedForm.php : Sys2Proof.Laws.EncodedForm.Statement .php :=
  ⟨_, _, _, rfl, rfl, rfl⟩

theorem Sys2Proof.Laws.EncodedForm.pla : Sys2Proof.Laws.EncodedForm.Statement .pla :=
  ⟨_, _, _, rfl, rfl, rfl⟩

theorem Sys2Proof.Laws.EncodedForm.plp : Sys2Proof.Laws.EncodedForm.Statement .plp :=
  ⟨_, _, _, rfl, rfl, rfl⟩

theorem Sys2Proof.Laws.EncodedForm.tax : Sys2Proof.Laws.EncodedForm.Statement .tax :=
  ⟨_, _, _, rfl, rfl, rfl⟩

theorem Sys2Proof.Laws.EncodedForm.tay : Sys2Proof.Laws.EncodedForm.Statement .tay :=
  ⟨_, _, _, rfl, rfl, rfl⟩

theorem Sys2Proof.Laws.EncodedForm.tsx : Sys2Proof.Laws.EncodedForm.Statement .tsx :=
  ⟨_, _, _, rfl, rfl, rfl⟩

theorem Sys2Proof.Laws.EncodedForm.txa : Sys2Proof.Laws.EncodedForm.Statement .txa :=
  ⟨_, _, _, rfl, rfl, rfl⟩

theorem Sys2Proof.Laws.EncodedForm.txs : Sys2Proof.Laws.EncodedForm.Statement .txs :=
  ⟨_, _, _, rfl, rfl, rfl⟩

theorem Sys2Proof.Laws.EncodedForm.tya : Sys2Proof.Laws.EncodedForm.Statement .tya :=
  ⟨_, _, _, rfl, rfl, rfl⟩
end

