-- ==== Sys2Proof/Laws/Step.lean ====
section
/-! SUPPORT. What one step can do, said once. -/

namespace Sys2Proof.Machine

/-- A reset wins over everything (spec/60_exceptions.md R205). -/
theorem State.boundary_eq_reset (s : State) : s.boundary = .reset ↔ s.input.reset = true := by
  unfold State.boundary
  cases s.input.reset <;> cases s.input.irq <;> cases s.mask <;> simp

/-- A request is taken where the line is asserted and the mask is 0 (R202). -/
theorem State.boundary_eq_irq (s : State) :
    s.boundary = .irq ↔ s.input.reset = false ∧ s.input.irq = true ∧ s.mask = false := by
  unfold State.boundary
  cases s.input.reset <;> cases s.input.irq <;> cases s.mask <;> simp

/-- The instruction at the pc is executed where the line is not asserted or the mask is 1 (R202). -/
theorem State.boundary_eq_execute (s : State) :
    s.boundary = .execute ↔ s.input.reset = false ∧ (s.input.irq = false ∨ s.mask = true) := by
  unfold State.boundary
  cases s.input.reset <;> cases s.input.irq <;> cases s.mask <;> simp

/-- The instruction at the pc is what the decoder reads from the three bytes there. -/
theorem State.fetchInstr_of_decode {s : State} {i : Instr} {rest : List Byte}
    (h : decode [s.fetchByte 0, s.fetchByte 1, s.fetchByte 2] = .ok (i, rest)) : s.fetchInstr = some i := by
  rw [decode_three] at h
  unfold State.fetchInstr decodeBytes
  cases hl : lookup (s.fetchByte 0) with
  | none => simp [hl] at h
  | some f =>
    rw [hl] at h
    simp only [Except.ok.injEq, Prod.mk.injEq] at h
    simp [h.1]

/-- A step that answers a next state is a reset, an interrupt entry, or an instruction executed. -/
theorem step_cases {s t : State} (h : step s = .next t) :
    (s.boundary = .reset ∧ t = s.beginStep.resetSequence)
      ∨ (s.boundary = .irq ∧ t = s.beginStep.interruptEntry .irq s.pc)
      ∨ (s.boundary = .execute ∧ ∃ i, s.beginStep.fetchInstr = some i ∧ exec i s.beginStep = .next t) := by
  unfold step at h
  cases hb : s.boundary with
  | reset =>
    rw [hb] at h
    injection h with h
    exact .inl ⟨rfl, h.symm⟩
  | irq =>
    rw [hb] at h
    injection h with h
    exact .inr (.inl ⟨rfl, h.symm⟩)
  | execute =>
    rw [hb] at h
    cases hf : s.beginStep.fetchInstr with
    | none => simp [hf] at h
    | some i =>
      simp only [hf] at h
      exact .inr (.inr ⟨rfl, i, rfl, h⟩)

end Sys2Proof.Machine
end

