-- ==== Sys2Proof/Tests/Slice0.lean ====
section
/-! SUPPORT. Tests: the checks of well-formedness, words written out from the spec's encodings, single steps from
spec/95_test_vectors.md, and a witness for every statement that has hypotheses. -/

namespace Sys2Proof.Tests

open Sys2Proof Sys2Proof.Machine Sys2Proof.Config Sys2Proof.Safety Sys2Proof.Statements

/-! Well-formedness: an ill-formed term for each check, and a well-formed one beside it. -/

theorem test_region_without_an_address : Region.wf { base := 0x100, size := 0, kind := .rom } = false := by decide

theorem test_region_past_the_end : Region.wf { base := 0xFFFF, size := 2, kind := .rom } = false := by decide

theorem test_region_up_to_the_end : Region.wf { base := 0xFFFE, size := 2, kind := .rom } = true := by decide

theorem test_map_with_a_bad_region :
    Params.wf { bModel := .latch, brkSetsI := false, memMap := [⟨0, 1, .rom⟩, ⟨2, 0, .device⟩] } = false := by decide

theorem test_reset_params_wf : State.reset.params.wf = true := by decide

/-! Decoding: for every constructor a word from the "Encoding" line of its instruction in spec/. -/

/-- Do these words decode to these instructions, with nothing left over, and encode back? -/
def wordsDecode (ws : List (List Byte × Instr)) : Bool :=
  ws.all (fun e => decide (decode e.1 = .ok (e.2, [])) && decide (encode e.2 = e.1))

/-- Every row of spec/40_arithmetic_compare.md, from its "Encoding" lines. -/
theorem test_decode_arithmetic : wordsDecode
    [ ([0x69, 0xA5], .adcImm 0xA5), ([0x65, 0xA5], .adcZp 0xA5), ([0x75, 0xA5], .adcZpX 0xA5),
      ([0x6D, 0x34, 0x12], .adcAbs 0x1234), ([0x7D, 0x34, 0x12], .adcAbsX 0x1234),
      ([0x79, 0x34, 0x12], .adcAbsY 0x1234), ([0x61, 0xA5], .adcIndX 0xA5), ([0x71, 0xA5], .adcIndY 0xA5),
      ([0xE9, 0xA5], .sbcImm 0xA5), ([0xE5, 0xA5], .sbcZp 0xA5), ([0xF5, 0xA5], .sbcZpX 0xA5),
      ([0xED, 0x34, 0x12], .sbcAbs 0x1234), ([0xFD, 0x34, 0x12], .sbcAbsX 0x1234),
      ([0xF9, 0x34, 0x12], .sbcAbsY 0x1234), ([0xE1, 0xA5], .sbcIndX 0xA5), ([0xF1, 0xA5], .sbcIndY 0xA5),
      ([0xC9, 0xA5], .cmpImm 0xA5), ([0xC5, 0xA5], .cmpZp 0xA5), ([0xD5, 0xA5], .cmpZpX 0xA5),
      ([0xCD, 0x34, 0x12], .cmpAbs 0x1234), ([0xDD, 0x34, 0x12], .cmpAbsX 0x1234),
      ([0xD9, 0x34, 0x12], .cmpAbsY 0x1234), ([0xC1, 0xA5], .cmpIndX 0xA5), ([0xD1, 0xA5], .cmpIndY 0xA5),
      ([0xE0, 0xA5], .cpxImm 0xA5), ([0xE4, 0xA5], .cpxZp 0xA5), ([0xEC, 0x34, 0x12], .cpxAbs 0x1234),
      ([0xC0, 0xA5], .cpyImm 0xA5), ([0xC4, 0xA5], .cpyZp 0xA5),
      ([0xCC, 0x34, 0x12], .cpyAbs 0x1234) ] = true := by
  decide

/-- Every row of spec/41_logical.md, from its "Encoding" lines. -/
theorem test_decode_logical : wordsDecode
    [ ([0x29, 0xA5], .andImm 0xA5), ([0x25, 0xA5], .andZp 0xA5), ([0x35, 0xA5], .andZpX 0xA5),
      ([0x2D, 0x34, 0x12], .andAbs 0x1234), ([0x3D, 0x34, 0x12], .andAbsX 0x1234),
      ([0x39, 0x34, 0x12], .andAbsY 0x1234), ([0x21, 0xA5], .andIndX 0xA5), ([0x31, 0xA5], .andIndY 0xA5),
      ([0x24, 0xA5], .bitZp 0xA5), ([0x2C, 0x34, 0x12], .bitAbs 0x1234), ([0x49, 0xA5], .eorImm 0xA5),
      ([0x45, 0xA5], .eorZp 0xA5), ([0x55, 0xA5], .eorZpX 0xA5), ([0x4D, 0x34, 0x12], .eorAbs 0x1234),
      ([0x5D, 0x34, 0x12], .eorAbsX 0x1234), ([0x59, 0x34, 0x12], .eorAbsY 0x1234),
      ([0x41, 0xA5], .eorIndX 0xA5), ([0x51, 0xA5], .eorIndY 0xA5), ([0x09, 0xA5], .oraImm 0xA5),
      ([0x05, 0xA5], .oraZp 0xA5), ([0x15, 0xA5], .oraZpX 0xA5), ([0x0D, 0x34, 0x12], .oraAbs 0x1234),
      ([0x1D, 0x34, 0x12], .oraAbsX 0x1234), ([0x19, 0x34, 0x12], .oraAbsY 0x1234),
      ([0x01, 0xA5], .oraIndX 0xA5), ([0x11, 0xA5], .oraIndY 0xA5) ] = true := by
  decide

/-- Every row of spec/42_shifts.md, from its "Encoding" lines. -/
theorem test_decode_shifts : wordsDecode
    [ ([0x0A], .aslAcc), ([0x06, 0xA5], .aslZp 0xA5), ([0x16, 0xA5], .aslZpX 0xA5),
      ([0x0E, 0x34, 0x12], .aslAbs 0x1234), ([0x1E, 0x34, 0x12], .aslAbsX 0x1234), ([0x4A], .lsrAcc),
      ([0x46, 0xA5], .lsrZp 0xA5), ([0x56, 0xA5], .lsrZpX 0xA5), ([0x4E, 0x34, 0x12], .lsrAbs 0x1234),
      ([0x5E, 0x34, 0x12], .lsrAbsX 0x1234), ([0x2A], .rolAcc), ([0x26, 0xA5], .rolZp 0xA5),
      ([0x36, 0xA5], .rolZpX 0xA5), ([0x2E, 0x34, 0x12], .rolAbs 0x1234), ([0x3E, 0x34, 0x12], .rolAbsX 0x1234),
      ([0x6A], .rorAcc), ([0x66, 0xA5], .rorZp 0xA5), ([0x76, 0xA5], .rorZpX 0xA5),
      ([0x6E, 0x34, 0x12], .rorAbs 0x1234), ([0x7E, 0x34, 0x12], .rorAbsX 0x1234) ] = true := by
  decide

/-- Every row of spec/43_branches.md, from its "Encoding" lines. -/
theorem test_decode_branches : wordsDecode
    [ ([0x90, 0xA5], .bcc 0xA5), ([0xB0, 0xA5], .bcs 0xA5), ([0xF0, 0xA5], .beq 0xA5),
      ([0x30, 0xA5], .bmi 0xA5), ([0xD0, 0xA5], .bne 0xA5), ([0x10, 0xA5], .bpl 0xA5),
      ([0x50, 0xA5], .bvc 0xA5), ([0x70, 0xA5], .bvs 0xA5) ] = true := by
  decide

/-- Every row of spec/44_system.md, from its "Encoding" lines. -/
theorem test_decode_system : wordsDecode
    [ ([0x00], .brk), ([0xEA], .nop), ([0x40], .rti) ] = true := by
  decide

/-- Every row of spec/45_flags.md, from its "Encoding" lines. -/
theorem test_decode_flag_instructions : wordsDecode
    [ ([0x18], .clc), ([0xD8], .cld), ([0x58], .cli), ([0xB8], .clv), ([0x38], .sec), ([0xF8], .sed),
      ([0x78], .sei) ] = true := by
  decide

/-- Every row of spec/46_incdec.md, from its "Encoding" lines. -/
theorem test_decode_incdec : wordsDecode
    [ ([0xC6, 0xA5], .decZp 0xA5), ([0xD6, 0xA5], .decZpX 0xA5), ([0xCE, 0x34, 0x12], .decAbs 0x1234),
      ([0xDE, 0x34, 0x12], .decAbsX 0x1234), ([0xCA], .dex), ([0x88], .dey), ([0xE6, 0xA5], .incZp 0xA5),
      ([0xF6, 0xA5], .incZpX 0xA5), ([0xEE, 0x34, 0x12], .incAbs 0x1234), ([0xFE, 0x34, 0x12], .incAbsX 0x1234),
      ([0xE8], .inx), ([0xC8], .iny) ] = true := by
  decide

/-- Every row of spec/47_jumps.md, from its "Encoding" lines. -/
theorem test_decode_jumps : wordsDecode
    [ ([0x4C, 0x34, 0x12], .jmpAbs 0x1234), ([0x6C, 0x34, 0x12], .jmpInd 0x1234),
      ([0x20, 0x34, 0x12], .jsr 0x1234), ([0x60], .rts) ] = true := by
  decide

/-- Every row of spec/48_load_store.md, from its "Encoding" lines. -/
theorem test_decode_load_store : wordsDecode
    [ ([0xA9, 0xA5], .ldaImm 0xA5), ([0xA5, 0xA5], .ldaZp 0xA5), ([0xB5, 0xA5], .ldaZpX 0xA5),
      ([0xAD, 0x34, 0x12], .ldaAbs 0x1234), ([0xBD, 0x34, 0x12], .ldaAbsX 0x1234),
      ([0xB9, 0x34, 0x12], .ldaAbsY 0x1234), ([0xA1, 0xA5], .ldaIndX 0xA5), ([0xB1, 0xA5], .ldaIndY 0xA5),
      ([0xA2, 0xA5], .ldxImm 0xA5), ([0xA6, 0xA5], .ldxZp 0xA5), ([0xB6, 0xA5], .ldxZpY 0xA5),
      ([0xAE, 0x34, 0x12], .ldxAbs 0x1234), ([0xBE, 0x34, 0x12], .ldxAbsY 0x1234), ([0xA0, 0xA5], .ldyImm 0xA5),
      ([0xA4, 0xA5], .ldyZp 0xA5), ([0xB4, 0xA5], .ldyZpX 0xA5), ([0xAC, 0x34, 0x12], .ldyAbs 0x1234),
      ([0xBC, 0x34, 0x12], .ldyAbsX 0x1234), ([0x85, 0xA5], .staZp 0xA5), ([0x95, 0xA5], .staZpX 0xA5),
      ([0x8D, 0x34, 0x12], .staAbs 0x1234), ([0x9D, 0x34, 0x12], .staAbsX 0x1234),
      ([0x99, 0x34, 0x12], .staAbsY 0x1234), ([0x81, 0xA5], .staIndX 0xA5), ([0x91, 0xA5], .staIndY 0xA5),
      ([0x86, 0xA5], .stxZp 0xA5), ([0x96, 0xA5], .stxZpY 0xA5), ([0x8E, 0x34, 0x12], .stxAbs 0x1234),
      ([0x84, 0xA5], .styZp 0xA5), ([0x94, 0xA5], .styZpX 0xA5),
      ([0x8C, 0x34, 0x12], .styAbs 0x1234) ] = true := by
  decide

/-- Every row of spec/49_stack_transfer.md, from its "Encoding" lines. -/
theorem test_decode_stack_transfer : wordsDecode
    [ ([0x48], .pha), ([0x08], .php), ([0x68], .pla), ([0x28], .plp), ([0xAA], .tax), ([0xA8], .tay),
      ([0xBA], .tsx), ([0x8A], .txa), ([0x9A], .txs), ([0x98], .tya) ] = true := by
  decide

/-- An undefined opcode byte is rejected by name (V42.24). -/
theorem test_decode_undefined : decode [0x9E, 0x00, 0x03] = .error (.undefinedOpcode 0x9E) := by decide

/-- A list that ends inside an instruction is rejected by name. -/
theorem test_decode_truncated : decode [0xAD, 0x00] = .error (.truncated 0xAD) := by decide

/-- A table word: the second byte is bits 15 to 8, the third bits 23 to 16; bits the table does not give are 0. -/
theorem test_decodeTableWord :
    decodeTableWord 24 0x1234AD = some (.ldaAbs 0x1234) ∧ decodeTableWord 8 0xAD = some (.ldaAbs 0x0000)
      ∧ decodeTableWord 16 0xFF69 = some (.adcImm 0xFF) ∧ decodeTableWord 8 0x9E = none := by
  decide

/-! Single steps. -/

/-- The flags of a packed status byte, bit 4 taken as B. -/
def flagsOf (p : Byte) : Flags := unpackP .latch State.reset.flags p

/-- The packed status byte of a state, with the stored B as bit 4. -/
def p (s : State) : Byte := packP s.flags s.flags.b

/-- The start of the vectors: all flags 0, S = $FF, the pc at $0600, memory zero. -/
def blank : State := { State.reset with sp := 0xFF, pc := 0x0600, flags := flagsOf 0x20 }

/-- What `f` sees in the state after one step from `s` with these cells, or nothing where the step stops. -/
def after {α : Type} (s : State) (cells : List Host.Cell) (f : State → α) : Option α :=
  match step { s with mem := cells.foldl (fun m e => m.set e.1 e.2) s.mem } with
  | .next t => some (f t)
  | .fault _ => none
  | .refused _ => none

/-! Arithmetic and compare: spec/95_test_vectors.md, the vectors V40. -/

theorem test_V40_4_adcImm :
    after { blank with a := 0x80 }
      [(0x0600, 0x69), (0x0601, 0x80)] (fun t => (t.a, p t))
      = some (0x00, 0x63) := by decide

theorem test_V40_17_sbcImm :
    after { blank with a := 0x50, flags := flagsOf 0x21 }
      [(0x0600, 0xE9), (0x0601, 0xB0)] (fun t => (t.a, p t))
      = some (0xA0, 0xE0) := by decide

theorem test_V40_22_cmpImm :
    after { blank with a := 0x80 } [(0x0600, 0xC9)] (fun t => (t.a, p t)) = some (0x80, 0xA1) := by decide

theorem test_V40_26_cpxZp :
    after blank [(0x0010, 0x01), (0x0600, 0xE4), (0x0601, 0x10)] (fun t => (t.x, p t)) = some (0x00, 0xA0) := by decide

theorem test_V40_28_cpyAbs :
    after { blank with y := 0x7F }
      [(0x0300, 0x80), (0x0600, 0xCC), (0x0602, 0x03)] (fun t => (t.y, p t))
      = some (0x7F, 0xA0) := by decide

theorem test_V40_30_sbcIndY :
    after { blank with a := 0x10, y := 0xFF, flags := flagsOf 0x21 }
      [(0x0040, 0x02), (0x0041, 0x03), (0x0401, 0x10), (0x0600, 0xF1), (0x0601, 0x40)] (fun t => (t.a, p t))
      = some (0x00, 0x23) := by decide

/-! Logical: spec/95_test_vectors.md, the vectors V41. -/

theorem test_V41_1_andImm :
    after { blank with a := 0xF0 }
      [(0x0600, 0x29), (0x0601, 0x0F)] (fun t => (t.a, p t))
      = some (0x00, 0x22) := by decide

theorem test_V41_6_eorImm :
    after { blank with a := 0xAA, flags := flagsOf 0x60 }
      [(0x0600, 0x49), (0x0601, 0x55)] (fun t => (t.a, p t))
      = some (0xFF, 0xE0) := by decide

theorem test_V41_9_oraAbsX :
    after { blank with a := 0x0F, x := 0x05 }
      [(0x0305, 0x30), (0x0600, 0x1D), (0x0602, 0x03)] (fun t => (t.a, p t))
      = some (0x3F, 0x20) := by decide

theorem test_V41_13_bitAbs :
    after { blank with a := 0x3F, flags := flagsOf 0xA0 }
      [(0x0300, 0x40), (0x0600, 0x2C), (0x0602, 0x03)] (fun t => (t.a, p t))
      = some (0x3F, 0x62) := by decide

/-! Shifts: spec/95_test_vectors.md, the vectors V42. -/

theorem test_V42_1_aslAcc :
    after { blank with a := 0x80 } [(0x0600, 0x0A)] (fun t => (t.a, p t)) = some (0x00, 0x23) := by decide

theorem test_V42_6_aslZpX :
    after { blank with a := 0x01, x := 0x20 }
      [(0x0010, 0xC1), (0x0600, 0x16), (0x0601, 0xF0)] (fun t => (t.mem.get 0x0010, p t))
      = some (0x82, 0xA1) := by decide

theorem test_V42_10_lsrAbsX :
    after { blank with x := 0x01 }
      [(0x0300, 0xFE), (0x0600, 0x5E), (0x0601, 0xFF), (0x0602, 0x02)] (fun t => (t.mem.get 0x0300, p t))
      = some (0x7F, 0x20) := by decide

theorem test_V42_16_rolAbsX :
    after { blank with x := 0x10, flags := flagsOf 0x21 }
      [(0x0310, 0x7F), (0x0600, 0x3E), (0x0602, 0x03)] (fun t => (t.mem.get 0x0310, p t))
      = some (0xFF, 0xA0) := by decide

theorem test_V42_18_rorAcc :
    after { blank with a := 0x01, flags := flagsOf 0x21 }
      [(0x0600, 0x6A)] (fun t => (t.a, p t))
      = some (0x80, 0xA1) := by decide

theorem test_V42_20_rorZp :
    after { blank with a := 0x42 }
      [(0x0010, 0x01), (0x0600, 0x66), (0x0601, 0x10)] (fun t => (t.mem.get 0x0010, p t))
      = some (0x00, 0x23) := by decide

theorem test_V42_23_rorZpX :
    after { blank with x := 0xF8, flags := flagsOf 0x21 }
      [(0x0008, 0x80), (0x0600, 0x76), (0x0601, 0x10)] (fun t => (t.mem.get 0x0008, p t))
      = some (0xC0, 0xA0) := by decide

/-! Branches: spec/95_test_vectors.md, the vectors V43. -/

theorem test_V43_3_bcs :
    after { blank with flags := flagsOf 0x21 }
      [(0x0600, 0xB0), (0x0601, 0xFE)] (fun t => (t.pc, p t))
      = some (0x0600, 0x21) := by decide

theorem test_V43_6_beq :
    after { blank with flags := flagsOf 0x22 }
      [(0x0600, 0xF0), (0x0601, 0x80)] (fun t => (t.pc, p t))
      = some (0x0582, 0x22) := by decide

theorem test_V43_8_bmi :
    after { blank with flags := flagsOf 0xA0 }
      [(0x0600, 0x30), (0x0601, 0x05)] (fun t => (t.pc, p t))
      = some (0x0607, 0xA0) := by decide

theorem test_V43_10_bne :
    after blank [(0x0600, 0xD0), (0x0601, 0xFB)] (fun t => (t.pc, p t)) = some (0x05FD, 0x20) := by decide

theorem test_V43_12_bpl : after blank [(0x0600, 0x10)] (fun t => (t.pc, p t)) = some (0x0602, 0x20) := by decide

theorem test_V43_14_bvc :
    after blank [(0x0600, 0x50), (0x0601, 0x02)] (fun t => (t.pc, p t)) = some (0x0604, 0x20) := by decide

theorem test_V43_16_bvs :
    after { blank with flags := flagsOf 0x60 }
      [(0x0600, 0x70), (0x0601, 0xFD)] (fun t => (t.pc, p t))
      = some (0x05FF, 0x60) := by decide

theorem test_V43_19_bne :
    after { blank with pc := 0x0004 }
      [(0x0004, 0xD0), (0x0005, 0xF0)] (fun t => (t.pc, p t))
      = some (0xFFF6, 0x20) := by decide

theorem test_V43_21_bcc :
    after { blank with pc := 0x06FD, flags := flagsOf 0xEE }
      [(0x06FD, 0x90), (0x06FE, 0x01)] (fun t => (t.pc, p t))
      = some (0x0700, 0xEE) := by decide

/-! System: spec/95_test_vectors.md, the vectors V44. -/

theorem test_V44_1_brk :
    after { blank with flags := flagsOf 0x23 }
      [(0xFFFF, 0x07)] (fun t => (t.sp, t.pc, t.mem.get 0x01FD, p t))
      = some (0xFC, 0x0700, 0x33, 0x33) := by decide

theorem test_V44_4_brk :
    after { blank with flags := flagsOf 0x23, params := { bModel := .pushedOnly, brkSetsI := true, memMap :=
      [] } } [(0xFFFF, 0x07)] (fun t => (t.sp, t.pc, t.mem.get 0x01FD, p t))
      = some (0xFC, 0x0700, 0x33, 0x27) := by decide

theorem test_V44_6_brk :
    after { blank with sp := 0x80, pc := 0xFFFF }
      [] (fun t => (t.sp, t.pc, t.mem.get 0x017E, p t))
      = some (0x7D, 0x0000, 0x30, 0x30) := by decide

theorem test_V44_7_nop :
    after { blank with a := 0x12, x := 0x34, y := 0x56, sp := 0x78, flags := flagsOf 0xFF }
      [(0x0600, 0xEA)] (fun t => (t.sp, t.pc, p t))
      = some (0x78, 0x0601, 0xFF) := by decide

theorem test_V44_12_rti :
    after { blank with sp := 0xFE }
      [(0x01FF, 0xC1), (0x0100, 0x34), (0x0101, 0x12), (0x0600, 0x40)] (fun t => (t.sp, t.pc, p t))
      = some (0x01, 0x1234, 0xE1) := by decide

/-! Flag instructions: spec/95_test_vectors.md, the vectors V45. -/

theorem test_V45_1_clc :
    after { blank with flags := flagsOf 0xFF } [(0x0600, 0x18)] (fun t => (p t)) = some (0xFE) := by decide

theorem test_V45_3_cld :
    after { blank with flags := flagsOf 0xFF } [(0x0600, 0xD8)] (fun t => (p t)) = some (0xF7) := by decide

theorem test_V45_4_cli :
    after { blank with flags := flagsOf 0xFF } [(0x0600, 0x58)] (fun t => (p t)) = some (0xFB) := by decide

theorem test_V45_5_clv :
    after { blank with flags := flagsOf 0xFF } [(0x0600, 0xB8)] (fun t => (p t)) = some (0xBF) := by decide

theorem test_V45_6_sec : after blank [(0x0600, 0x38)] (fun t => (p t)) = some (0x21) := by decide

theorem test_V45_8_sed : after blank [(0x0600, 0xF8)] (fun t => (p t)) = some (0x28) := by decide

theorem test_V45_9_sei : after blank [(0x0600, 0x78)] (fun t => (p t)) = some (0x24) := by decide

/-! Increments and decrements: spec/95_test_vectors.md, the vectors V46. -/

theorem test_V46_4_incZpX :
    after { blank with x := 0x02 }
      [(0x0001, 0xFE), (0x0600, 0xF6), (0x0601, 0xFF)] (fun t => (t.mem.get 0x0001, p t))
      = some (0xFF, 0xA0) := by decide

theorem test_V46_9_decZpX :
    after { blank with x := 0x80 }
      [(0x0000, 0x02), (0x0600, 0xD6), (0x0601, 0x80)] (fun t => (t.mem.get 0x0000, p t))
      = some (0x01, 0x20) := by decide

theorem test_V46_11_inx :
    after { blank with x := 0xFF } [(0x0600, 0xE8)] (fun t => (t.x, p t)) = some (0x00, 0x22) := by decide

theorem test_V46_13_iny :
    after { blank with y := 0xFF, flags := flagsOf 0x21 }
      [(0x0600, 0xC8)] (fun t => (t.y, p t))
      = some (0x00, 0x23) := by decide

theorem test_V46_15_dex : after blank [(0x0600, 0xCA)] (fun t => (t.x, p t)) = some (0xFF, 0xA0) := by decide

theorem test_V46_17_dey : after blank [(0x0600, 0x88)] (fun t => (t.y, p t)) = some (0xFF, 0xA0) := by decide

/-! Jumps and calls: spec/95_test_vectors.md, the vectors V47. -/

theorem test_V47_3_jmpInd :
    after blank
      [(0x0210, 0x78), (0x0211, 0x06), (0x0600, 0x6C), (0x0601, 0x10), (0x0602, 0x02)] (fun t => (t.pc))
      = some (0x0678) := by decide

theorem test_V47_5_jmpInd :
    after blank
      [(0xFFFF, 0xCD), (0xFF00, 0xAB), (0x0000, 0x99), (0x0600, 0x6C), (0x0601, 0xFF), (0x0602, 0xFF)] (fun t => (t.pc))
      = some (0xABCD) := by decide

theorem test_V47_9_jsr :
    after { blank with sp := 0x80, pc := 0xFFFE, flags := flagsOf 0xA3 }
      [(0xFFFE, 0x20), (0x0000, 0x07)] (fun t => (t.sp, t.pc, t.mem.get 0x0180, t.mem.get 0x017F))
      = some (0x7E, 0x0700, 0x00, 0x00) := by decide

theorem test_V47_11_rts :
    after { blank with sp := 0xFD }
      [(0x01FE, 0xFF), (0x01FF, 0xFF), (0x0600, 0x60)] (fun t => (t.sp, t.pc))
      = some (0xFF, 0x0000) := by decide

/-! Loads and stores: spec/95_test_vectors.md, the vectors V48. -/

theorem test_V48_7_ldaAbsX :
    after { blank with x := 0x02 }
      [(0x0001, 0x42), (0x0600, 0xBD), (0x0601, 0xFF), (0x0602, 0xFF)] (fun t => (t.a, p t))
      = some (0x42, 0x20) := by decide

theorem test_V48_10_ldaIndX :
    after blank
      [(0x0000, 0x40), (0x0100, 0x50), (0x4000, 0x01), (0x5000, 0x02), (0x0600, 0xA1), (0x0601, 0xFF)]
      (fun t => (t.a, p t))
      = some (0x01, 0x20) := by decide

theorem test_V48_14_ldaIndY :
    after { blank with y := 0xFF }
      [(0x0020, 0xFF), (0x0021, 0xFF), (0x00FE, 0x66), (0x0600, 0xB1), (0x0601, 0x20)] (fun t => (t.a, p t))
      = some (0x66, 0x20) := by decide

theorem test_V48_17_ldxZpY :
    after { blank with y := 0x20 }
      [(0x0010, 0x99), (0x0600, 0xB6), (0x0601, 0xF0)] (fun t => (t.x, p t))
      = some (0x99, 0xA0) := by decide

theorem test_V48_22_ldyZpX :
    after { blank with x := 0xFF }
      [(0x0600, 0xB4), (0x0601, 0x80)] (fun t => (t.y, p t))
      = some (0x00, 0x22) := by decide

theorem test_V48_29_staAbsY :
    after { blank with a := 0x22, y := 0xFF }
      [(0x0600, 0x99), (0x0602, 0xFF)] (fun t => (t.mem.get 0xFFFF, p t))
      = some (0x22, 0x20) := by decide

theorem test_V48_33_stxZpY :
    after { blank with x := 0x5A, y := 0x05 }
      [(0x0600, 0x96), (0x0601, 0xFE)] (fun t => (t.mem.get 0x0003, p t))
      = some (0x5A, 0x20) := by decide

theorem test_V48_36_styZpX :
    after { blank with x := 0xFF, y := 0x01 }
      [(0x0600, 0x94), (0x0601, 0x10)] (fun t => (t.mem.get 0x000F, p t))
      = some (0x01, 0x20) := by decide

theorem test_V48_38_staAbs :
    after { blank with a := 0xEA }
      [(0x0600, 0x8D), (0x0601, 0x01), (0x0602, 0x06)] (fun t => (t.mem.get 0x0601, p t))
      = some (0xEA, 0x20) := by decide

/-! Stack and transfers: spec/95_test_vectors.md, the vectors V49. -/

theorem test_V49_1_pha :
    after { blank with flags := flagsOf 0xA0 }
      [(0x0600, 0x48)] (fun t => (t.sp, t.mem.get 0x01FF, p t))
      = some (0xFE, 0x00, 0xA0) := by decide

theorem test_V49_4_php :
    after { blank with flags := flagsOf 0xA5, params := { bModel := .pushedOnly, brkSetsI := false, memMap :=
      [] } } [(0x0600, 0x08)] (fun t => (t.sp, t.mem.get 0x01FF, p t))
      = some (0xFE, 0xB5, 0xA5) := by decide

theorem test_V49_8_pla :
    after { blank with a := 0x55, sp := 0xFE } [(0x0600, 0x68)] (fun t => (t.a, p t)) = some (0x00, 0x22) := by decide

theorem test_V49_10_plp :
    after { blank with sp := 0xFE }
      [(0x01FF, 0xC3), (0x0600, 0x28)] (fun t => (t.sp, p t))
      = some (0xFF, 0xE3) := by decide

theorem test_V49_12_plp :
    after { blank with sp := 0xFE, params := { bModel := .pushedOnly, brkSetsI := false, memMap :=
      [] } } [(0x01FF, 0xFF), (0x0600, 0x28)] (fun t => (t.sp, p t))
      = some (0xFF, 0xEF) := by decide

theorem test_V49_18_tax :
    after { blank with a := 0x80, flags := flagsOf 0x22 }
      [(0x0600, 0xAA)] (fun t => (t.x, p t))
      = some (0x80, 0xA0) := by decide

theorem test_V49_19_tay :
    after { blank with a := 0x7F, flags := flagsOf 0xA2 }
      [(0x0600, 0xA8)] (fun t => (t.y, p t))
      = some (0x7F, 0x20) := by decide

theorem test_V49_21_tsx : after blank [(0x0600, 0xBA)] (fun t => (t.x, p t)) = some (0xFF, 0xA0) := by decide

theorem test_V49_23_txa :
    after { blank with a := 0x11 } [(0x0600, 0x8A)] (fun t => (t.a, p t)) = some (0x00, 0x22) := by decide

theorem test_V49_26_txs :
    after { blank with x := 0x80, sp := 0x55, flags := flagsOf 0x22 }
      [(0x0600, 0x9A)] (fun t => (t.sp, p t))
      = some (0x80, 0x22) := by decide

theorem test_V49_27_tya :
    after { blank with a := 0x01 } [(0x0600, 0x98)] (fun t => (t.a, p t)) = some (0x00, 0x22) := by decide

/-! Boundaries, and an instruction as the first after reset. -/

/-- V60's start: a request at the boundary before $0612. -/
def requestAt : State :=
  { blank with sp := 0xF0, pc := 0x0612, inputs := [{ reset := false, irq := true, maskOld := false }] }

/-- V60.1: an interrupt request is taken; bit 4 of the pushed status is 0. -/
theorem test_V60_1_irq :
    after { requestAt with flags := flagsOf 0xA9 }
      [(0xFFFE, 0x00), (0xFFFF, 0xC0)] (fun t => (t.sp, t.pc, p t, t.mem.get 0x01EE))
      = some (0xED, 0xC000, 0xAD, 0xA9) := by decide

/-- With I = 1 the request is not taken: the instruction at the pc (here a NOP) executes. -/
theorem test_irq_masked :
    after { requestAt with flags := flagsOf 0x24 } [(0x0612, 0xEA)] (fun t => (t.sp, t.pc)) = some (0xF0, 0x0613) := by
  decide

/-- With the line not asserted no request is taken, I = 0 or not: the NOP at the pc executes. -/
theorem test_line_not_asserted :
    after { blank with inputs := [{ reset := false, irq := false, maskOld := true }], prevI := some false }
      [(0x0600, 0xEA)] (fun t => (t.sp, t.pc, t.inputs)) = some (0xFF, 0x0601, []) := by decide

/-- A reset at a boundary wins over a request (R205): the pc from $FFFC/D, I = 1. -/
theorem test_reset_wins :
    after { blank with inputs := [{ reset := true, irq := true, maskOld := false }] }
      [(0xFFFC, 0x00), (0xFFFD, 0x06), (0xFFFF, 0x07)] (fun t => (t.pc, t.flags.i)) = some (0x0600, true) := by decide

/-- The first instruction after reset, placed by `withFetchWord`: LDA #$80. -/
theorem test_withFetchWord :
    after (State.reset.withFetchWord 16 0x80A9) [] (fun t => (t.a, t.pc)) = some (0x80, 0x0002) := by decide

/-! Witnesses: for each statement with hypotheses, states and operands that meet them, at the edges of their ranges. -/

/-- `blank` with D = 1. -/
def decimal : State := { blank with flags := flagsOf 0x28 }

/-- `blank` with ROM at $0010 to $0011, a device at $0012 to $0013, nothing at $0014 to $0015. -/
def mapped : State :=
  { blank with
    params :=
      { bModel := .pushedOnly, brkSetsI := false
        memMap := [⟨0x10, 2, .rom⟩, ⟨0x12, 2, .device⟩, ⟨0x14, 2, .unmapped⟩] } }

/-- `blank` right after an instruction that changed I from `old` to `new`, with a request at the boundary. -/
def requested (old : Option Bool) (new maskOld : Bool) : State :=
  { blank with
    flags := { blank.flags with i := new }
    prevI := old
    inputs := [{ reset := false, irq := true, maskOld := maskOld }] }

/-- `blank` with this I and an input that asks for nothing at the boundary. -/
def unrequested (i maskOld : Bool) : State :=
  { blank with
    flags := { blank.flags with i := i }
    inputs := [{ reset := false, irq := false, maskOld := maskOld }] }

/-- `blank` with all 65536 addresses RAM has a RAM stack. -/
theorem test_stackIsRam_blank : StackIsRam blank := fun _ => rfl

theorem test_witness_AdcAddsWithCarry : blank.flags.d = false ∧ decimal.flags.d = true := by decide

theorem test_witness_SbcSubtractsWithBorrow : blank.flags.d = false ∧ decimal.flags.d = true := by decide

theorem test_witness_BranchesByDisplacement :
    (blank.flags.c = false ∧ blank.flags.z = false ∧ blank.flags.n = false ∧ blank.flags.v = false)
      ∧ (flagsOf 0xFF).c = true ∧ (flagsOf 0xFF).z = true ∧ (flagsOf 0xFF).n = true ∧ (flagsOf 0xFF).v = true := by
  decide

theorem test_witness_NineRotationsRestore :
    Instr.rolAcc ∈ [Instr.rolAcc, Instr.rorAcc] ∧ Instr.rorAcc ∈ [Instr.rolAcc, Instr.rorAcc] := by decide

theorem test_witness_JumpsToTheOperandOrThroughIt :
    (0x0211 : Word).toNat = (0x0210 : Word).toNat / 256 * 256 + ((0x0210 : Word).toNat % 256 + 1) % 256
      ∧ (0xFF00 : Word).toNat = (0xFFFF : Word).toNat / 256 * 256 + ((0xFFFF : Word).toNat % 256 + 1) % 256 := by
  decide

theorem test_witness_PushOfAccumulatorAndStatus :
    Packs 0x20 blank.flags blank.flags.b ∧ Packs 0x30 mapped.flags true ∧ mapped.params.bModel = .pushedOnly := by
  unfold Packs
  decide

theorem test_witness_IndirectModesAsNumbers :
    ((0x10 : Word).toNat = ((0x80 : Byte).toNat + (0x90 : Byte).toNat) % 256
        ∧ (0x11 : Word).toNat = ((0x80 : Byte).toNat + (0x90 : Byte).toNat + 1) % 256)
      ∧ (0xFF : Word).toNat = (0xFF : Byte).toNat ∧ (0x00 : Word).toNat = ((0xFF : Byte).toNat + 1) % 256 := by
  decide

theorem test_witness_WrittenByteIsReadBack :
    blank.mem.wf = true ∧ blank.kindAt 0x0000 = .ram ∧ blank.kindAt 0xFFFF = .ram ∧ (0x0000 : Word) ≠ 0xFFFF := by
  decide

theorem test_witness_MapDecidesWhatAnAccessDoes :
    (mapped.kindAt 0x0F = .ram ∧ mapped.kindAt 0x10 = .rom ∧ mapped.kindAt 0x11 = .rom)
      ∧ (mapped.kindAt 0x12 = .device ∧ mapped.kindAt 0x13 = .device)
      ∧ mapped.kindAt 0x14 = .unmapped ∧ mapped.kindAt 0x15 = .unmapped ∧ mapped.kindAt 0x16 = .ram := by
  decide

theorem test_witness_WordsAreLittleEndian :
    (0x0000 : Word).toNat = ((0xFFFF : Word).toNat + 1) % 65536
      ∧ (0x1235 : Word).toNat = ((0x1234 : Word).toNat + 1) % 65536 := by
  decide

theorem test_witness_StackLivesInPageOne :
    ((0x01FF : Word).toNat = 256 + (0xFF : Byte).toNat ∧ (0x0100 : Word).toNat = 256 + (0x00 : Byte).toNat)
      ∧ (0x0100 : Word).toNat = 256 + ((0xFF : Byte).toNat + 1) % 256
      ∧ (0x0101 : Word).toNat = 256 + ((0x00 : Byte).toNat + 1) % 256 := by
  decide

theorem test_witness_EntryPushesPcAndStatus :
    Packs 0x30 blank.flags (TrapKind.brk = .brk) ∧ Packs 0x20 blank.flags (TrapKind.irq = .brk) := by
  unfold Packs
  decide

theorem test_witness_EntryFrameOnTheStack :
    blank.mem.wf = true ∧ StackIsRam blank
      ∧ (0x0100 : Word) ≠ stackAddr blank.sp ∧ (0x0100 : Word) ≠ stackAddr (blank.sp - 1)
      ∧ (0x0100 : Word) ≠ stackAddr (blank.sp - 2) :=
  ⟨by decide, test_stackIsRam_blank, by decide, by decide, by decide⟩

/-- A handler that has pushed and pulled a byte: the byte stays behind below the frame. -/
theorem test_witness_RtiUndoesTheEntry :
    let s := blank.interruptEntry .brk 0x1234
    let h := { (s.push 0x80).afterPull with a := 0x55 }
    StackIsRam blank ∧ blank.mem.wf = true ∧ h.sp = s.sp ∧ h.params = blank.params
      ∧ (∀ p ∈ [blank.sp, blank.sp - 1, blank.sp - 2], h.read .stack (stackAddr p) = s.read .stack (stackAddr p))
      ∧ h.read .stack (stackAddr (blank.sp - 3)) ≠ s.read .stack (stackAddr (blank.sp - 3)) :=
  ⟨test_stackIsRam_blank, by decide⟩

/-- A subroutine that has pushed and pulled a byte; at S = $00 the return address lies at both ends of the page. -/
theorem test_witness_CallAndReturnMeet :
    let s := { blank with sp := 0x00 }
    let c := s.call 0x1234
    let h := { (c.push 0x80).afterPull with a := 0x55 }
    StackIsRam s ∧ exec (.jsr 0x1234) s = .next c ∧ s.mem.wf = true ∧ h.sp = c.sp ∧ h.params = c.params
      ∧ (∀ p ∈ [s.sp, s.sp - 1], h.read .stack (stackAddr p) = c.read .stack (stackAddr p))
      ∧ h.read .stack (stackAddr (s.sp - 2)) ≠ c.read .stack (stackAddr (s.sp - 2)) :=
  ⟨fun _ => rfl, rfl, by decide⟩

theorem test_witness_PushThenPullRestores : blank.mem.wf = true ∧ blank.kindAt (stackAddr blank.sp) = .ram := by decide

theorem test_witness_RequestTakenByTheMask :
    (∀ (old : Option Bool) (new maskOld : Bool), let s := requested old new maskOld
      s.input.reset = false ∧ s.input.irq = true ∧ s.prevI = old ∧ s.flags.i = new ∧ s.input.maskOld = maskOld)
      ∧ (∀ (i maskOld : Bool), let s := unrequested i maskOld
        s.inputs ≠ [] ∧ s.input.reset = false ∧ s.input.irq = false ∧ s.flags.i = i ∧ s.input.maskOld = maskOld)
      ∧ blank.inputs = [] ∧ blank.input.reset = false ∧ blank.input.irq = false :=
  ⟨fun _ _ _ => ⟨rfl, rfl, rfl, rfl, rfl⟩, fun _ _ => ⟨List.cons_ne_nil _ _, rfl, rfl, rfl, rfl⟩, rfl, rfl, rfl⟩

theorem test_witness_ResetAtABoundary :
    { blank with inputs := [{ reset := true, irq := true, maskOld := false }] }.input.reset = true := by decide

theorem test_witness_StepRunsTheDecodedInstruction :
    let s := blank.placeInstr 0xA9 0x80 0x00
    s.boundary = .execute
      ∧ decode [s.beginStep.read .fetch 0x0600, s.beginStep.read .fetch 0x0601, s.beginStep.read .fetch 0x0602]
          = .ok (.ldaImm 0x80, [0x00]) := by
  decide

theorem test_witness_EncodeOfDecode :
    decode [0xB1, 0x20, 0xEA] = .ok (.ldaIndY 0x20, [0xEA]) := by decide

theorem test_witness_UndefinedOpcodesAreRefused :
    let s := blank.placeInstr 0x9E 0x00 0x03
    s.boundary = .execute ∧ s.beginStep.read .fetch s.pc ∈ undefinedOpcodes := by
  decide

theorem test_witness_StepKeepsTheInvariant :
    ∃ t, Inv blank.params blank ∧ step blank = .next t :=
  ⟨blank.beginStep.interruptEntry .brk (blank.pc + 2), ⟨by decide, rfl⟩, rfl⟩

theorem test_witness_OnlyRamChanges :
    ∃ t, step mapped = .next t ∧ mapped.kindAt 0x0010 ≠ .ram :=
  ⟨mapped.beginStep.interruptEntry .brk (mapped.pc + 2), rfl, by decide⟩

theorem test_witness_StoresGoWhereComputed :
    (∃ t, exec (.staZp 0x10) blank = .next t) ∧ (0x0010 : Word) ∈ storeAddrs blank (.staZp 0x10)
      ∧ (0x0011 : Word) ∉ storeAddrs blank (.staZp 0x10) :=
  ⟨⟨_, rfl⟩, by decide, by decide⟩

theorem test_witness_RegistersChangeOnlyByTheirWriters :
    (∃ t, exec .nop blank = .next t)
      ∧ mnemonic .nop ∉ [.ADC, .AND, .ASL, .EOR, .LDA, .LSR, .ORA, .PLA, .ROL, .ROR, .SBC, .TXA, .TYA]
      ∧ mnemonic .nop ∉ [.DEX, .INX, .LDX, .TAX, .TSX] ∧ mnemonic .nop ∉ [.DEY, .INY, .LDY, .TAY]
      ∧ mnemonic .nop ∉ [.TXS, .BRK, .JSR, .PHA, .PHP, .PLA, .PLP, .RTI, .RTS]
      ∧ (∃ t, exec (.aslZp 0x10) blank = .next t) ∧ storeAddrs blank (.aslZp 0x10) ≠ [] :=
  ⟨⟨_, rfl⟩, by decide, by decide, by decide, by decide, ⟨_, rfl⟩, by decide⟩

theorem test_witness_FlagsChangeOnlyByTheirWriters :
    (∃ t, exec (.staZp 0x10) blank = .next t)
      ∧ mnemonic (.staZp 0x10)
          ∉ [.ADC, .SBC, .ASL, .LSR, .ROL, .ROR, .CMP, .CPX, .CPY, .CLC, .SEC, .PLP, .RTI]
      ∧ mnemonic (.staZp 0x10)
          ∉ [.ADC, .SBC, .AND, .EOR, .ORA, .ASL, .LSR, .ROL, .ROR, .BIT, .CMP, .CPX, .CPY, .DEC, .DEX, .DEY, .INC,
            .INX, .INY, .LDA, .LDX, .LDY, .PLA, .PLP, .RTI, .TAX, .TAY, .TSX, .TXA, .TYA]
      ∧ mnemonic (.staZp 0x10) ∉ [.BIT, .CLV, .CLD, .SED, .CLI, .SEI, .BRK]
      ∧ (∃ t, exec .brk blank = .next t) ∧ mnemonic .brk = .BRK ∧ blank.params.brkSetsI = false
      ∧ (∃ t, exec .plp mapped = .next t) ∧ mapped.params.bModel = .pushedOnly :=
  ⟨⟨_, rfl⟩, by decide, by decide, by decide, ⟨_, rfl⟩, by decide, by decide, ⟨_, rfl⟩, by decide⟩

theorem test_witness_SequentialInstructionsAdvance :
    (∃ t, exec (.ldaAbs 0x1234) { blank with pc := 0xFFFE } = .next t)
      ∧ mnemonic (.ldaAbs 0x1234)
          ∉ [.BCC, .BCS, .BEQ, .BMI, .BNE, .BPL, .BVC, .BVS, .JMP, .JSR, .RTS, .BRK, .RTI] :=
  ⟨⟨_, rfl⟩, by decide⟩

theorem test_witness_ModelFieldsAreLeftAlone :
    (∃ t, exec .nop blank = .next t) ∧ mnemonic .nop ∉ [.CLI, .SEI, .PLP]
      ∧ (∃ t, exec .cli blank = .next t) ∧ mnemonic .cli ∈ [.CLI, .SEI, .PLP] :=
  ⟨⟨_, rfl⟩, by decide, ⟨_, rfl⟩, by decide⟩

theorem test_witness_DecimalFlagTouchesOnlyArithmetic :
    (∃ t, exec (.cmpImm 0x09) decimal = .next t)
      ∧ mnemonic (.cmpImm 0x09) ∉ [.ADC, .SBC, .PHP, .PLP, .RTI, .BRK, .CLD, .SED] :=
  ⟨⟨_, rfl⟩, by decide⟩

theorem test_witness_EndOfRunIsALoop : EndOfRun (blank.placeInstr 0x4C 0x00 0x06) := by
  constructor <;> decide

end Sys2Proof.Tests
end

