-- ==== Sys2Proof/Proofs/Memory.lean ====
section
/-! PROOFS. The statements of spec/20_memory.md section 3. -/

namespace Sys2Proof.Machine

open Sys2Proof.Config

/-- A read of RAM gives the contents of memory there, whatever the read is for (R31). -/
theorem State.read_of_ram {s : State} {a : Word} (hk : s.kindAt a = .ram) (use : Access) :
    s.read use a = s.mem.get a.toNat := by
  simp only [State.read, hk]

end Sys2Proof.Machine

namespace Sys2Proof.Statements

open Sys2Proof.Machine

/-- Settles O31: a byte written to RAM is read back, and no other byte changes (R31). -/
theorem writtenByteIsReadBack : Obligations.WrittenByteIsReadBack := by
  intro s a v hwf hk use
  have hsame : (s.write a v).read use a = v := State.read_write_same hwf hk v use
  have hcontents : s.read use a = s.mem.get a.toNat := State.read_of_ram hk use
  exact ⟨hsame, hcontents, fun b hne => State.read_write_other s hne v use⟩

end Sys2Proof.Statements
end

