-- ==== Sys2Proof/Proofs/Encoding.lean ====
section
/-! PROOFS. The statements of spec/30_encoding.md section 1. -/

namespace Sys2Proof.Machine

open Sys2Proof.Safety

/-- The mnemonics that R66 leaves out: they set the pc themselves (spec/43_branches.md, 44_system.md, 47_jumps.md). -/
def transferMnemonics : List Mnemonic :=
  [.BCC, .BCS, .BEQ, .BMI, .BNE, .BPL, .BVC, .BVS, .JMP, .JSR, .RTS, .BRK, .RTI]

/-- `pc <- next` as numbers: the length is added modulo 65536 (R66, R14). -/
theorem State.advance_pc_toNat (s : State) (n : Nat) : (s.advance n).pc.toNat = (s.pc.toNat + n) % 65536 := by
  simp

/-- Every instruction that does not transfer control is an effect that leaves the pc alone, then `pc <- next` with the
length of its own encoding (R66). The cases are grouped by that effect. -/
theorem exec_eq_advance (i : Instr) (s : State) (hseq : mnemonic i ∉ transferMnemonics) :
    ∃ u : State, exec i s = .next (u.advance (encode i).length) ∧ u.pc = s.pc := by
  cases i with
  | adcImm | adcZp | adcZpX | adcAbs | adcAbsX | adcAbsY | adcIndX | adcIndY =>
    exact ⟨_, rfl, State.adc_pc ..⟩
  | sbcImm | sbcZp | sbcZpX | sbcAbs | sbcAbsX | sbcAbsY | sbcIndX | sbcIndY =>
    exact ⟨_, rfl, State.sbc_pc ..⟩
  | cmpImm | cmpZp | cmpZpX | cmpAbs | cmpAbsX | cmpAbsY | cmpIndX | cmpIndY | cpxImm | cpxZp | cpxAbs | cpyImm
  | cpyZp | cpyAbs =>
    exact ⟨_, rfl, State.compare_pc ..⟩
  | bitZp | bitAbs =>
    exact ⟨_, rfl, State.bitTest_pc ..⟩
  | andImm | andZp | andZpX | andAbs | andAbsX | andAbsY | andIndX | andIndY | eorImm | eorZp | eorZpX | eorAbs
  | eorAbsX | eorAbsY | eorIndX | eorIndY | oraImm | oraZp | oraZpX | oraAbs | oraAbsX | oraAbsY | oraIndX | oraIndY
  | ldaImm | ldaZp | ldaZpX | ldaAbs | ldaAbsX | ldaAbsY | ldaIndX | ldaIndY | txa | tya =>
    exact ⟨_, rfl, State.putA_pc ..⟩
  | ldxImm | ldxZp | ldxZpY | ldxAbs | ldxAbsY | dex | inx | tax | tsx =>
    exact ⟨_, rfl, State.putX_pc ..⟩
  | ldyImm | ldyZp | ldyZpX | ldyAbs | ldyAbsX | dey | iny | tay =>
    exact ⟨_, rfl, State.putY_pc ..⟩
  | aslAcc | lsrAcc | rolAcc | rorAcc =>
    exact ⟨_, rfl, State.shiftAcc_pc ..⟩
  | aslZp | aslZpX | aslAbs | aslAbsX | lsrZp | lsrZpX | lsrAbs | lsrAbsX | rolZp | rolZpX | rolAbs | rolAbsX | rorZp
  | rorZpX | rorAbs | rorAbsX =>
    exact ⟨_, rfl, State.shiftMem_pc ..⟩
  | decZp | decZpX | decAbs | decAbsX =>
    exact ⟨_, rfl, State.decMem_pc ..⟩
  | incZp | incZpX | incAbs | incAbsX =>
    exact ⟨_, rfl, State.incMem_pc ..⟩
  | staZp | staZpX | staAbs | staAbsX | staAbsY | staIndX | staIndY | stxZp | stxZpY | stxAbs | styZp | styZpX
  | styAbs =>
    exact ⟨_, rfl, State.write_pc ..⟩
  | pha | php =>
    exact ⟨_, rfl, State.push_pc ..⟩
  | pla =>
    exact ⟨_, rfl, (State.putA_pc ..).trans (State.afterPull_pc s)⟩
  | plp =>
    exact ⟨_, rfl, State.pullFlags_pc s⟩
  | cli | sei =>
    exact ⟨_, rfl, State.writeI_pc ..⟩
  | clc | cld | clv | sec | sed | txs | nop =>
    exact ⟨_, rfl, rfl⟩
  | bcc | bcs | beq | bmi | bne | bpl | bvc | bvs | jmpAbs | jmpInd | jsr | rts | brk | rti =>
    simp [mnemonic, transferMnemonics] at hseq

end Sys2Proof.Machine

namespace Sys2Proof.Statements

open Sys2Proof.Machine

/-- Settles O57: an instruction that does not transfer control ends at the next instruction's address (R66). -/
theorem sequentialInstructionsAdvance : Obligations.SequentialInstructionsAdvance := by
  intro i s t hexec hseq
  obtain ⟨u, hu, hpc⟩ := exec_eq_advance i s hseq
  have ht : t = u.advance (encode i).length := by simpa [hexec] using hu
  rw [ht, State.advance_pc_toNat, hpc]

end Sys2Proof.Statements
end

