-- ==== Sys2Proof/Proofs/Logical.lean ====
section
/-! PROOFS. The statements of spec/41_logical.md. Every form of AND, EOR and ORA is `putA` of its result, every form of BIT
is `bitTest`, and then the pc moves past the instruction. -/

namespace Sys2Proof.Statements

open Sys2Proof.Machine

/-- A new A with its flags, then `pc <- next`, as one record (R26, R66). -/
theorem putA_advance (s : State) (r : Byte) (n : Nat) :
    (s.putA r).advance n = { s with a := r, flags := nz s.flags r, pc := s.pc + BitVec.ofNat 16 n } := rfl

/-- BIT's flags, then `pc <- next`, as one record (R111, R66). -/
theorem bitTest_advance (s : State) (m : Byte) (n : Nat) :
    (s.bitTest m).advance n =
      { s with
        flags := { s.flags with z := decide (s.a &&& m = 0), n := m.getLsbD 7, v := m.getLsbD 6 }
        pc := s.pc + BitVec.ofNat 16 n } := rfl

/-- An instruction whose meaning is an effect and the advance past its own bytes runs to the state the two give. -/
theorem Runs.of_advance {s u t : State} {i : Instr} {opcode : Byte} {len cyc : Nat}
    (hexec : exec i s = .next (u.advance len)) (hstate : u.advance len = t)
    (hopcode : (encode i).head? = some opcode) (hlen : (encode i).length = len) (hcycles : cycles s i = cyc) :
    Runs s i opcode len cyc t :=
  ⟨hopcode, hlen, hcycles, hstate ▸ hexec⟩

/-- An instruction that puts `r` in A and moves on runs to the state with `r`, its Z and N, and the next address. -/
theorem Runs.of_putA {s : State} {i : Instr} {opcode r : Byte} {len cyc : Nat}
    (hexec : exec i s = .next ((s.putA r).advance len))
    (hopcode : (encode i).head? = some opcode) (hlen : (encode i).length = len) (hcycles : cycles s i = cyc) :
    Runs s i opcode len cyc { s with a := r, flags := nz s.flags r, pc := s.pc + BitVec.ofNat 16 len } :=
  .of_advance hexec (putA_advance s r len) hopcode hlen hcycles

/-- Settles O6: in each of the eight modes the meaning of AND, EOR and ORA is `putA` of the bitwise result of A and the
mode's operand (R110, R112, R113). -/
theorem logicalInstructionsWriteA : Obligations.LogicalInstructionsWriteA := by
  intro s
  refine ⟨fun b w => ?and, fun b w => ?eor, fun b w => ?ora⟩
  all_goals
    refine ⟨?_, ?_, ?_, ?_, ?_, ?_, ?_, ?_⟩
    all_goals exact Runs.of_putA rfl rfl rfl rfl

/-- Settles O7: in both modes the meaning of BIT is `bitTest` of the operand, which writes Z, N and V alone (R111). -/
theorem bitTestsMemory : Obligations.BitTestsMemory := by
  intro s b w
  exact ⟨.of_advance rfl (bitTest_advance s (s.operand (eaZp b)) 2) rfl rfl rfl,
    .of_advance rfl (bitTest_advance s (s.operand (eaAbs w)) 3) rfl rfl rfl⟩

end Sys2Proof.Statements
end

/-! PROOFS. The statements of spec/42_shifts.md. Every form of a shift is `shiftAcc` or `shiftMem` of the instruction's
function, and then the pc moves past the instruction; what is left to show is that function's arithmetic. -/

namespace Sys2Proof.Machine

/-- A shift right by one bit is the half as a number (R121). -/
theorem ushiftRight_one_eq_half (v : Byte) : v >>> 1 = BitVec.ofNat 8 (v.toNat / 2) := by
  apply BitVec.eq_of_toNat_eq
  have hlt := v.isLt
  rw [BitVec.toNat_ushiftRight, Nat.shiftRight_eq_div_pow, BitVec.toNat_ofNat]
  omega

/-- LSR's function as arithmetic: half the value, the carry from old bit 0 (R121). -/
theorem shiftLsr_eq_half (v : Byte) (c : Bool) :
    shiftLsr v c = { r := BitVec.ofNat 8 (v.toNat / 2), c := v.getLsbD 0 } := by
  rw [shiftLsr, ushiftRight_one_eq_half]

/-- "Bit 7 is set to zero" (R121): a half is below 128. -/
theorem half_bit7 (v : Byte) : (BitVec.ofNat 8 (v.toNat / 2)).getLsbD 7 = false := by
  have hhalf : v.toNat / 2 < 2 ^ 7 := by have := v.isLt; omega
  rw [BitVec.getLsbD_ofNat, Nat.testBit_lt_two_pow hhalf, Bool.and_false]

end Sys2Proof.Machine

namespace Sys2Proof.Statements

open Sys2Proof.Machine

/-- A shift of A, then `pc <- next`, as one record (R124, R66). -/
theorem shiftAcc_advance (s : State) (f : Byte → Bool → ShiftResult) (n : Nat) :
    (s.shiftAcc f).advance n =
      let t := f s.a s.flags.c
      { s with a := t.r, flags := { nz s.flags t.r with c := t.c }, pc := s.pc + BitVec.ofNat 16 n } := rfl

/-- A shift of the byte at an address, then `pc <- next`, as one record (R124, R66). -/
theorem shiftMem_advance (s : State) (f : Byte → Bool → ShiftResult) (a : Word) (n : Nat) :
    (s.shiftMem f a).advance n =
      let t := f (s.operand a) s.flags.c
      { s.write a t.r with flags := { nz s.flags t.r with c := t.c }, pc := s.pc + BitVec.ofNat 16 n } := rfl

section
variable {s : State} {f : Byte → Bool → ShiftResult} {r : Byte → Byte} {c : Byte → Bool} {i : Instr} {opcode : Byte}
  {len cyc : Nat}

/-- An instruction that shifts A by `f` and moves on runs to the state that `f`'s result and carry give. -/
theorem Runs.of_shiftAcc (hf : ∀ v, f v s.flags.c = { r := r v, c := c v })
    (hexec : exec i s = .next ((s.shiftAcc f).advance len))
    (hopcode : (encode i).head? = some opcode) (hlen : (encode i).length = len) (hcycles : cycles s i = cyc) :
    Runs s i opcode len cyc
      { s with a := r s.a, flags := { nz s.flags (r s.a) with c := c s.a }, pc := s.pc + BitVec.ofNat 16 len } :=
  .of_advance hexec (by rw [shiftAcc_advance, hf]) hopcode hlen hcycles

/-- An instruction that shifts the byte at `a` by `f` and moves on runs to the state that `f`'s result and carry give. -/
theorem Runs.of_shiftMem {a : Word} (hf : ∀ v, f v s.flags.c = { r := r v, c := c v })
    (hexec : exec i s = .next ((s.shiftMem f a).advance len))
    (hopcode : (encode i).head? = some opcode) (hlen : (encode i).length = len) (hcycles : cycles s i = cyc) :
    Runs s i opcode len cyc
      (let v := s.operand a
       { s.write a (r v) with
         flags := { nz s.flags (r v) with c := c v }, pc := s.pc + BitVec.ofNat 16 len }) :=
  .of_advance hexec (by rw [shiftMem_advance, hf]) hopcode hlen hcycles

end

/-- Settles O9: each form of LSR is a shift by `shiftLsr`, which is the half with the carry from bit 0 (R121); the half
has bit 7 clear, so N is 0. -/
theorem logicalShiftRightHalves : Obligations.LogicalShiftRightHalves := by
  intro s
  have hf : ∀ v, shiftLsr v s.flags.c = { r := BitVec.ofNat 8 (v.toNat / 2), c := v.getLsbD 0 } :=
    fun v => shiftLsr_eq_half v s.flags.c
  refine ⟨⟨?acc, fun b w => ⟨?zp, ?zpX, ?abs, ?absX⟩⟩, half_bit7⟩
  case acc => exact .of_shiftAcc hf rfl rfl rfl rfl
  all_goals exact .of_shiftMem hf rfl rfl rfl rfl

end Sys2Proof.Statements

/-! PROOFS. The statements of spec/44_system.md. NOP is the advance past its own byte with no effect before it. -/

namespace Sys2Proof.Machine

/-- NOP's whole meaning is "the normal incrementing of the program counter" (R141). -/
theorem exec_nop (s : State) : exec .nop s = .next (s.advance 1) := rfl

/-- `pc <- next` of a one-byte instruction writes the pc and no other field (R66). -/
theorem State.advance_one (s : State) : s.advance 1 = { s with pc := s.pc + 1 } := rfl

end Sys2Proof.Machine

namespace Sys2Proof.Statements

open Sys2Proof.Machine

/-- Settles O15: NOP is the one-byte advance alone, and that changes only the pc (R141). -/
theorem nopOnlyAdvances : Obligations.NopOnlyAdvances := by
  intro s
  exact .of_advance (exec_nop s) (State.advance_one s) rfl rfl rfl

end Sys2Proof.Statements

/-! PROOFS. The statements of spec/47_jumps.md. A jump writes the pc and nothing else; what is left to show is where the
high byte of an indirect target is read. -/

namespace Sys2Proof.Machine

/-- JMP Absolute's whole meaning is a new pc, its operand (R170). -/
theorem exec_jmpAbs (v : Word) (s : State) : exec (.jmpAbs v) s = .next { s with pc := v } := rfl

/-- JMP Indirect's whole meaning is a new pc, the target its vector gives (R170). -/
theorem exec_jmpInd (v : Word) (s : State) : exec (.jmpInd v) s = .next { s with pc := indirectTarget s v } := rfl

/-- The address of a vector's high byte as a number: the page of `v`, and its low byte plus one modulo 256 (R170). -/
theorem vectorHighAddr_toNat (v : Word) :
    (wordOf (hiByte v) (loByte v + 1)).toNat = v.toNat / 256 * 256 + (v.toNat % 256 + 1) % 256 := by
  have hlow : (loByte v + 1).toNat = (v.toNat % 256 + 1) % 256 := by
    rw [BitVec.toNat_add, loByte_toNat]
    rfl
  rw [wordOf_toNat, hiByte_toNat, hlow]

/-- The indirect target from the byte at `v` and the byte at any address `h` that is, as a number, the next one in the
page of `v` (R170). -/
theorem indirectTarget_eq (s : State) {v h : Word}
    (hnext : h.toNat = v.toNat / 256 * 256 + (v.toNat % 256 + 1) % 256) :
    indirectTarget s v = wordOf (s.read .pointer h) (s.read .pointer v) := by
  have haddr : wordOf (hiByte v) (loByte v + 1) = h :=
    BitVec.eq_of_toNat_eq ((vectorHighAddr_toNat v).trans hnext.symm)
  rw [indirectTarget, haddr]

end Sys2Proof.Machine

namespace Sys2Proof.Statements

open Sys2Proof.Machine

/-- Settles O19: both forms of JMP write the pc alone; the indirect target's high byte is read from the vector's own
page (R170). -/
theorem jumpsToTheOperandOrThroughIt : Obligations.JumpsToTheOperandOrThroughIt := by
  intro s v
  refine ⟨⟨rfl, rfl, rfl, exec_jmpAbs v s⟩, fun h hnext => ?_⟩
  have hexec : exec (.jmpInd v) s = .next { s with pc := wordOf (s.read .pointer h) (s.read .pointer v) } := by
    rw [exec_jmpInd, indirectTarget_eq s hnext]
  exact ⟨rfl, rfl, rfl, hexec⟩

end Sys2Proof.Statements

/-! PROOFS. The statements of spec/48_load_store.md. Every form of a load is `putA`, `putX` or `putY` of the operand,
every form of a store is `write` of the register at the effective address, and then the pc moves past the instruction. -/

namespace Sys2Proof.Statements

open Sys2Proof.Machine

/-- A new X with its flags, then `pc <- next`, as one record (R26, R66). -/
theorem putX_advance (s : State) (r : Byte) (n : Nat) :
    (s.putX r).advance n = { s with x := r, flags := nz s.flags r, pc := s.pc + BitVec.ofNat 16 n } := rfl

/-- A new Y with its flags, then `pc <- next`, as one record (R26, R66). -/
theorem putY_advance (s : State) (r : Byte) (n : Nat) :
    (s.putY r).advance n = { s with y := r, flags := nz s.flags r, pc := s.pc + BitVec.ofNat 16 n } := rfl

/-- A store, then `pc <- next`: the next address is counted from the old pc, which the store leaves alone (R66, R183). -/
theorem write_advance (s : State) (a : Word) (v : Byte) (n : Nat) :
    (s.write a v).advance n = { s.write a v with pc := s.pc + BitVec.ofNat 16 n } := rfl

section
variable {s : State} {i : Instr} {opcode r : Byte} {len cyc : Nat}

/-- An instruction that puts `r` in X and moves on runs to the state with `r`, its Z and N, and the next address. -/
theorem Runs.of_putX (hexec : exec i s = .next ((s.putX r).advance len))
    (hopcode : (encode i).head? = some opcode) (hlen : (encode i).length = len) (hcycles : cycles s i = cyc) :
    Runs s i opcode len cyc { s with x := r, flags := nz s.flags r, pc := s.pc + BitVec.ofNat 16 len } :=
  .of_advance hexec (putX_advance s r len) hopcode hlen hcycles

/-- An instruction that puts `r` in Y and moves on runs to the state with `r`, its Z and N, and the next address. -/
theorem Runs.of_putY (hexec : exec i s = .next ((s.putY r).advance len))
    (hopcode : (encode i).head? = some opcode) (hlen : (encode i).length = len) (hcycles : cycles s i = cyc) :
    Runs s i opcode len cyc { s with y := r, flags := nz s.flags r, pc := s.pc + BitVec.ofNat 16 len } :=
  .of_advance hexec (putY_advance s r len) hopcode hlen hcycles

/-- An instruction that writes `r` at `a` and moves on runs to the state after that write, at the next address. -/
theorem Runs.of_write {a : Word} (hexec : exec i s = .next ((s.write a r).advance len))
    (hopcode : (encode i).head? = some opcode) (hlen : (encode i).length = len) (hcycles : cycles s i = cyc) :
    Runs s i opcode len cyc { s.write a r with pc := s.pc + BitVec.ofNat 16 len } :=
  .of_advance hexec (write_advance s a r len) hopcode hlen hcycles

end

/-- Settles O22: in each of the eight modes the meaning of LDA is `putA` of the mode's operand (R180). -/
theorem ldaLoadsTheAccumulator : Obligations.LdaLoadsTheAccumulator := by
  intro s b w
  refine ⟨?imm, ?zp, ?zpX, ?abs, ?absX, ?absY, ?indX, ?indY⟩
  all_goals exact Runs.of_putA rfl rfl rfl rfl

/-- Settles O23: in each of the five modes the meaning of LDX is `putX`, that of LDY `putY`, of the mode's operand; the
indexed modes of LDX count with Y and those of LDY with X (R181, R182). -/
theorem indexLoadsUseTheOtherIndex : Obligations.IndexLoadsUseTheOtherIndex := by
  intro s b w
  refine ⟨?ldxImm, ?ldxZp, ?ldxZpY, ?ldxAbs, ?ldxAbsY, ?ldyImm, ?ldyZp, ?ldyZpX, ?ldyAbs, ?ldyAbsX⟩
  case ldxImm | ldxZp | ldxZpY | ldxAbs | ldxAbsY => exact Runs.of_putX rfl rfl rfl rfl
  case ldyImm | ldyZp | ldyZpX | ldyAbs | ldyAbsX => exact Runs.of_putY rfl rfl rfl rfl

/-- Settles O24: in every mode the meaning of STA, STX and STY is `write` of the register at the mode's effective
address, which changes neither flags nor registers (R183, R184, R185). -/
theorem storesWriteOneByte : Obligations.StoresWriteOneByte := by
  intro s b w
  refine ⟨?staZp, ?staZpX, ?staAbs, ?staAbsX, ?staAbsY, ?staIndX, ?staIndY, ?stxZp, ?stxZpY, ?stxAbs, ?styZp, ?styZpX,
    ?styAbs⟩
  all_goals exact Runs.of_write rfl rfl rfl rfl

end Sys2Proof.Statements

/-! PROOFS. The statements of spec/49_stack_transfer.md. A transfer into A, X or Y is `putA`, `putX` or `putY` of the
source register; TXS writes S alone, so no flag is set from it. -/

namespace Sys2Proof.Machine

/-- TXS writes S and then the pc, and no flag (R198). -/
theorem exec_txs (s : State) : exec .txs s = .next (State.advance { s with sp := s.x } 1) := rfl

end Sys2Proof.Machine

namespace Sys2Proof.Statements

open Sys2Proof.Machine

/-- Settles O27: the transfers into X, Y and A put the source register there with its Z and N; TXS goes into S without
them (R194 to R199). -/
theorem transfersCopyRegisters : Obligations.TransfersCopyRegisters := by
  intro s
  refine ⟨?tax, ?tay, ?tsx, ?txa, ?txs, ?tya⟩
  case tax | tsx => exact Runs.of_putX rfl rfl rfl rfl
  case tay => exact Runs.of_putY rfl rfl rfl rfl
  case txa | tya => exact Runs.of_putA rfl rfl rfl rfl
  case txs => exact Runs.of_advance (exec_txs s) (State.advance_one _) rfl rfl rfl

end Sys2Proof.Statements

/-! PROOFS. The statements of spec/30_encoding.md sections 1, 3 and 5. A form of the opcode map says what the bytes of its
instruction are; `Form.EncodesAs` is that, and it ties the encoder to the map row by row. -/

namespace Sys2Proof

/-- An opcode byte without operands decodes to its instruction (R50, R52). -/
theorem decode_implied {op : Byte} {i : Instr} {rest : List Byte} (h : lookup op = some (.implied i)) :
    decode (op :: rest) = .ok (i, rest) := by
  simp only [decode, h]

/-- An opcode byte with one operand byte decodes to the instruction of that byte (R50, R52). -/
theorem decode_byte {op b : Byte} {f : Byte → Instr} {rest : List Byte} (h : lookup op = some (.byte f)) :
    decode (op :: b :: rest) = .ok (f b, rest) := by
  simp only [decode, h]

/-- An opcode byte with an operand word, low byte first, decodes to the instruction of that word (R50, R52). -/
theorem decode_word {op : Byte} {w : Word} {f : Word → Instr} {rest : List Byte} (h : lookup op = some (.word f)) :
    decode (op :: loByte w :: hiByte w :: rest) = .ok (f w, rest) := by
  simp only [decode, h, wordOf_hiByte_loByte]

/-- Every instruction that a form makes is encoded as the opcode byte and the operand bytes of the form (R50). -/
def Form.EncodesAs : Form → Byte → Prop
  | .implied i, op => encode i = [op]
  | .byte f, op => (fun b => encode (f b)) = fun b => [op, b]
  | .word f, op => (fun w => encode (f w)) = fun w => [op, loByte w, hiByte w]

/-- Each row of the opcode map agrees with the encoder (R51): entry by entry, both write the same bytes. -/
theorem opcodeRow_encodesAs (n : Nat) : ∀ e ∈ opcodeRow n, e.2.EncodesAs e.1 := by
  unfold opcodeRow
  split
  all_goals
    simp only [List.forall_mem_cons, List.not_mem_nil, false_imp_iff, implies_true, and_true]
    and_intros
  all_goals rfl

/-- The form that the map has for an opcode byte encodes with that byte (R51). -/
theorem lookup_encodesAs {op : Byte} {f : Form} (h : lookup op = some f) : f.EncodesAs op := by
  obtain ⟨⟨op', f'⟩, hfind, rfl⟩ := Option.map_eq_some_iff.mp h
  have hop : op' = op := by simpa using List.find?_some hfind
  exact hop ▸ opcodeRow_encodesAs _ _ (List.mem_of_find?_eq_some hfind)

/-- The map has no form for exactly the bytes that R67 lists. -/
theorem lookup_eq_none_iff (op : Byte) : lookup op = none ↔ op ∈ Statements.undefinedOpcodes := by
  have hall : ∀ b : Byte, (lookup b).isNone = decide (b ∈ Statements.undefinedOpcodes) := by decide
  rw [← Option.isNone_iff_eq_none, hall op, decide_eq_true_eq]

/-- The decoder rejects three bytes as undefined exactly where the map has no form for the first (R52, R67). -/
theorem decode_eq_undefined_iff (op b1 b2 : Byte) :
    decode [op, b1, b2] = .error (.undefinedOpcode op) ↔ lookup op = none := by
  rw [decode_three]
  cases lookup op with
  | none => simp
  | some f => simp

end Sys2Proof

namespace Sys2Proof.Machine

/-- The first byte of the next instruction is the byte at the pc (R50). -/
theorem State.fetchByte_zero (s : State) : s.fetchByte 0 = s.read .fetch s.pc := by
  simp [State.fetchByte]

/-- A step at whose boundary nothing is taken executes the instruction it fetches (spec/60_exceptions.md R202). -/
theorem step_of_fetch {s : State} {i : Instr} (hb : s.boundary = .execute) (hf : s.beginStep.fetchInstr = some i) :
    step s = exec i s.beginStep := by
  simp only [step, hb, hf]

/-- A step at whose boundary nothing is taken refuses an opcode byte that the map does not have (R67). -/
theorem step_of_undefined {s : State} (hb : s.boundary = .execute) (hf : s.beginStep.fetchInstr = none) :
    step s = .refused (.undefinedOpcode (s.beginStep.read .fetch s.pc)) := by
  simp only [step, hb, hf, State.fetchByte_zero, State.beginStep_pc]

/-- There is no instruction at the pc exactly where the map has no form for the byte there (R52, R67). -/
theorem State.fetchInstr_eq_none_iff (s : State) : s.fetchInstr = none ↔ lookup (s.read .fetch s.pc) = none := by
  rw [State.fetchInstr, decodeBytes, State.fetchByte_zero, Option.map_eq_none_iff]

end Sys2Proof.Machine

namespace Sys2Proof.Statements

open Sys2Proof.Machine

/-- Settles O46: by the number of operand bytes, the decoder finds in the map the form that the encoder used (R50, R51). -/
theorem decodeOfEncode : Obligations.DecodeOfEncode := by
  intro i rest
  cases i with
  | aslAcc | lsrAcc | rolAcc | rorAcc | brk | nop | rti | clc | cld | cli | clv | sec | sed | sei | dex | dey | inx
  | iny | rts | pha | php | pla | plp | tax | tay | tsx | txa | txs | tya =>
    exact decode_implied rfl
  | adcAbs | adcAbsX | adcAbsY | sbcAbs | sbcAbsX | sbcAbsY | cmpAbs | cmpAbsX | cmpAbsY | cpxAbs | cpyAbs | andAbs
  | andAbsX | andAbsY | bitAbs | eorAbs | eorAbsX | eorAbsY | oraAbs | oraAbsX | oraAbsY | aslAbs | aslAbsX | lsrAbs
  | lsrAbsX | rolAbs | rolAbsX | rorAbs | rorAbsX | decAbs | decAbsX | incAbs | incAbsX | jmpAbs | jmpInd | jsr | ldaAbs
  | ldaAbsX | ldaAbsY | ldxAbs | ldxAbsY | ldyAbs | ldyAbsX | staAbs | staAbsX | staAbsY | stxAbs | styAbs =>
    exact decode_word rfl
  | _ => exact decode_byte rfl

/-- Settles O47: the bytes that decode are an opcode byte and the operands of its form, which is how the encoder writes
every instruction of that form (R50, R51). -/
theorem encodeOfDecode : Obligations.EncodeOfDecode := by
  intro bs rest i h
  obtain ⟨op, ⟨hl, rfl⟩ | ⟨f, b1, hl, rfl, rfl⟩ | ⟨f, b1, b2, hl, rfl, rfl⟩⟩ := decode_ok h
  · have henc : encode i = [op] := lookup_encodesAs hl
    simp [henc]
  · have henc : encode (f b1) = [op, b1] := congrFun (lookup_encodesAs hl) b1
    simp [henc]
  · have henc := congrFun (lookup_encodesAs hl) (wordOf b2 b1)
    simp [henc]

/-- Settles O48: R67's list is the bytes without a form in the map; the decoder rejects those by name, and the step
refuses one at the pc. -/
theorem undefinedOpcodesAreRefused : Obligations.UndefinedOpcodesAreRefused := by
  refine ⟨fun op b1 b2 => (decode_eq_undefined_iff op b1 b2).trans (lookup_eq_none_iff op), fun s hb hop => ?_⟩
  have hfetch : s.beginStep.fetchInstr = none :=
    (State.fetchInstr_eq_none_iff _).mpr ((lookup_eq_none_iff _).mpr hop)
  exact step_of_undefined hb hfetch

/-- Settles O44: the three bytes at the pc are what the step fetches, so it executes what they decode to (R50, R52). -/
theorem stepRunsTheDecodedInstruction : Obligations.StepRunsTheDecodedInstruction := by
  intro s i rest hb s' hdec
  have hbytes : decode [s.beginStep.fetchByte 0, s.beginStep.fetchByte 1, s.beginStep.fetchByte 2] = .ok (i, rest) := by
    rw [State.fetchByte_zero]
    exact hdec
  exact step_of_fetch hb (State.fetchInstr_of_decode hbytes)

/-- Settles O45: each sample's opcode byte has its form in the map (R51). -/
theorem sampleWordsDecode : Obligations.SampleWordsDecode :=
  ⟨decode_byte rfl, decode_implied rfl, decode_byte rfl, decode_implied rfl, decode_implied rfl,
    decode_word (w := 0x1234) rfl, decode_word (w := 0x02FF) rfl, decode_byte rfl, decode_byte rfl, decode_implied rfl⟩

end Sys2Proof.Statements

/-! PROOFS. The statements of spec/40_arithmetic_compare.md. The arithmetic first: bit 7 and the signed value as bounds on
the unsigned one, so that the laws of `AddBinary` are linear arithmetic; then the instructions, each an effect and the
advance of the pc. -/

namespace Sys2Proof.Machine

/-- Bit 7 of a byte says that its unsigned value is at least 128. -/
theorem bit7_eq (v : Byte) : v.getLsbD 7 = decide (128 ≤ v.toNat) :=
  BitVec.msb_eq_decide v

/-- The signed value of a byte: 256 less than the unsigned one where bit 7 is set. -/
theorem toInt_eq (v : Byte) : v.toInt = if 128 ≤ v.toNat then (v.toNat : Int) - 256 else v.toNat := by
  rw [BitVec.toInt_eq_toNat_cond]
  split <;> split <;> omega

/-- `AddBinary`'s result is the sum modulo 256 (R106). -/
theorem addBinary_r_toNat (a m : Byte) (c : Bool) :
    (addBinary a m c).r.toNat = (a.toNat + m.toNat + c.toNat) % 256 :=
  BitVec.toNat_ofNat _ 8

/-- `AddBinary`'s carry says that the sum needs a ninth bit (R106). -/
theorem addBinary_c_iff (a m : Byte) (c : Bool) :
    (addBinary a m c).c = true ↔ 256 ≤ a.toNat + m.toNat + c.toNat :=
  decide_eq_true_iff

/-- `AddBinary`'s overflow: both addends have the same bit 7 and the result another (R106). -/
theorem addBinary_v_iff (a m : Byte) (c : Bool) :
    (addBinary a m c).v = true ↔ a.getLsbD 7 = m.getLsbD 7 ∧ (addBinary a m c).r.getLsbD 7 ≠ a.getLsbD 7 := by
  simp [addBinary]

/-- `AddBinary`'s overflow says that the sum of the signed values is no signed byte (R106). -/
theorem addBinary_v_iff_signed (a m : Byte) (c : Bool) :
    (addBinary a m c).v = true ↔ a.toInt + m.toInt + c.toNat < -128 ∨ 127 < a.toInt + m.toInt + c.toNat := by
  have ha := a.isLt
  have hm := m.isLt
  have hc := c.toNat_le
  have hr := addBinary_r_toNat a m c
  rw [addBinary_v_iff, bit7_eq, bit7_eq, bit7_eq, Ne, decide_eq_decide, decide_eq_decide, toInt_eq, toInt_eq]
  split_ifs <;> omega

/-- The complement that R101 writes as `M xor $FF`. -/
theorem xor_ff_eq_not (m : Byte) : m ^^^ 0xFF = ~~~m :=
  BitVec.xor_allOnes

/-- The complement of a byte as a number. -/
theorem xor_ff_toNat (m : Byte) : (m ^^^ 0xFF).toNat = 255 - m.toNat := by
  rw [xor_ff_eq_not, BitVec.toNat_not]

/-- The complement of a byte as a signed number. -/
theorem xor_ff_toInt (m : Byte) : (m ^^^ 0xFF).toInt = -m.toInt - 1 := by
  have hm := m.isLt
  rw [toInt_eq, toInt_eq, xor_ff_toNat]
  split <;> split <;> omega

end Sys2Proof.Machine

namespace Sys2Proof.Statements

open Sys2Proof.Machine

/-- Settles O3: the four laws of `AddBinary` (R106). -/
theorem carryAndOverflowOfAddition : Obligations.CarryAndOverflowOfAddition := fun a m c =>
  ⟨addBinary_r_toNat a m c, addBinary_c_iff a m c, addBinary_v_iff a m c, addBinary_v_iff_signed a m c⟩

/-- Settles O4: the complement is 255 less M, unsigned, and -1 less M, signed, so the laws of `AddBinary` become those of
the subtraction with a borrow (R101). -/
theorem subtractionByComplement : Obligations.SubtractionByComplement := by
  intro a m c
  have hm := m.isLt
  refine ⟨?result, ?carry, ?overflow⟩
  case result =>
    rw [addBinary_r_toNat, xor_ff_toNat]
    omega
  case carry =>
    rw [addBinary_c_iff, xor_ff_toNat]
    omega
  case overflow =>
    rw [addBinary_v_iff_signed, xor_ff_toInt]
    omega

section
variable {s : State} {i : Instr} {opcode m : Byte} {len cyc : Nat}

/-- An instruction that is ADC of `m` and moves on, with D = 0, runs to the state of the binary addition (R100). -/
theorem Runs.of_adc_binary (hd : s.flags.d = false) (hexec : exec i s = .next ((s.adc m).advance len))
    (hopcode : (encode i).head? = some opcode) (hlen : (encode i).length = len) (hcycles : cycles s i = cyc) :
    Runs s i opcode len cyc
      (let t := addBinary s.a m s.flags.c
       { s with a := t.r, flags := { nz s.flags t.r with c := t.c, v := t.v }, pc := s.pc + BitVec.ofNat 16 len }) :=
  .of_advance hexec (by rw [State.adc_binary hd]; rfl) hopcode hlen hcycles

/-- The same with D = 1: the state of the open decimal addition (R100, R105). -/
theorem Runs.of_adc_decimal (hd : s.flags.d = true) (hexec : exec i s = .next ((s.adc m).advance len))
    (hopcode : (encode i).head? = some opcode) (hlen : (encode i).length = len) (hcycles : cycles s i = cyc) :
    Runs s i opcode len cyc
      (let t := Config.decimalAdc s.a m s.flags.c
       { s with
         a := t.a, flags := { s.flags with c := t.c, z := t.z, v := t.v, n := t.n }
         pc := s.pc + BitVec.ofNat 16 len }) :=
  .of_advance hexec (by rw [State.adc_decimal hd]; rfl) hopcode hlen hcycles

/-- An instruction that is SBC of `m` and moves on, with D = 0, runs to the state of the addition of the complement
(R101). -/
theorem Runs.of_sbc_binary (hd : s.flags.d = false) (hexec : exec i s = .next ((s.sbc m).advance len))
    (hopcode : (encode i).head? = some opcode) (hlen : (encode i).length = len) (hcycles : cycles s i = cyc) :
    Runs s i opcode len cyc
      (let t := addBinary s.a (m ^^^ 0xFF) s.flags.c
       { s with a := t.r, flags := { nz s.flags t.r with c := t.c, v := t.v }, pc := s.pc + BitVec.ofNat 16 len }) :=
  .of_advance hexec (by rw [State.sbc_binary hd, ← xor_ff_eq_not]; rfl) hopcode hlen hcycles

/-- The same with D = 1: the state of the open decimal subtraction (R101, R105). -/
theorem Runs.of_sbc_decimal (hd : s.flags.d = true) (hexec : exec i s = .next ((s.sbc m).advance len))
    (hopcode : (encode i).head? = some opcode) (hlen : (encode i).length = len) (hcycles : cycles s i = cyc) :
    Runs s i opcode len cyc
      (let t := Config.decimalSbc s.a m s.flags.c
       { s with
         a := t.a, flags := { s.flags with c := t.c, z := t.z, v := t.v, n := t.n }
         pc := s.pc + BitVec.ofNat 16 len }) :=
  .of_advance hexec (by rw [State.sbc_decimal hd]; rfl) hopcode hlen hcycles

/-- An instruction that compares `reg` with `m` and moves on runs to the state with C, Z and N of that comparison (R102). -/
theorem Runs.of_compare {reg : Byte} (hexec : exec i s = .next ((s.compare reg m).advance len))
    (hopcode : (encode i).head? = some opcode) (hlen : (encode i).length = len) (hcycles : cycles s i = cyc) :
    Runs s i opcode len cyc { s with flags := compared s.flags reg m, pc := s.pc + BitVec.ofNat 16 len } :=
  .of_advance hexec rfl hopcode hlen hcycles

end

/-- Settles O1: in each of the eight modes the meaning of ADC is `adc` of the mode's operand (R100, R105). -/
theorem adcAddsWithCarry : Obligations.AdcAddsWithCarry := by
  intro s
  refine ⟨fun hd b w => ⟨?_, ?_, ?_, ?_, ?_, ?_, ?_, ?_⟩, fun hd b w => ⟨?_, ?_, ?_, ?_, ?_, ?_, ?_, ?_⟩⟩
  iterate 8 exact Runs.of_adc_binary hd rfl rfl rfl rfl
  iterate 8 exact Runs.of_adc_decimal hd rfl rfl rfl rfl

/-- Settles O2: in each of the eight modes the meaning of SBC is `sbc` of the mode's operand (R101, R105). -/
theorem sbcSubtractsWithBorrow : Obligations.SbcSubtractsWithBorrow := by
  intro s
  refine ⟨fun hd b w => ⟨?_, ?_, ?_, ?_, ?_, ?_, ?_, ?_⟩, fun hd b w => ⟨?_, ?_, ?_, ?_, ?_, ?_, ?_, ?_⟩⟩
  iterate 8 exact Runs.of_sbc_binary hd rfl rfl rfl rfl
  iterate 8 exact Runs.of_sbc_decimal hd rfl rfl rfl rfl

/-- Settles O5: in each mode the meaning of CMP, CPX and CPY is `compare` of the register with the mode's operand (R102,
R103, R104). -/
theorem compareSetsCarryZeroNegative : Obligations.CompareSetsCarryZeroNegative := by
  intro s
  refine ⟨fun b w => ⟨?_, ?_, ?_, ?_, ?_, ?_, ?_, ?_⟩, fun b w => ⟨?_, ?_, ?_⟩, fun b w => ⟨?_, ?_, ?_⟩⟩
  all_goals exact Runs.of_compare rfl rfl rfl rfl

end Sys2Proof.Statements

/-! PROOFS. The statements of spec/42_shifts.md on ASL, ROL and ROR. As arithmetic the three functions are a doubling, a
doubling with the old carry below, and a half with the old carry above. The carry and the byte are a ring of nine bits that
ROL and ROR turn by one place, so nine turns are none. -/

namespace Sys2Proof.Machine

/-- ASL's function as arithmetic: twice the value modulo 256 (R120). -/
theorem shiftAsl_eq_double (v : Byte) (c : Bool) :
    shiftAsl v c = { r := BitVec.ofNat 8 (v.toNat * 2), c := v.getLsbD 7 } := by
  rw [shiftAsl, BitVec.shiftLeft_eq_mul_twoPow, BitVec.ofNat_mul, BitVec.ofNat_toNat, BitVec.setWidth_eq]
  rfl

/-- ROL's function as arithmetic: the carry goes into bit 0, where twice the value has a 0 (R122). -/
theorem shiftRol_eq_double_add (v : Byte) (c : Bool) :
    shiftRol v c = { r := BitVec.ofNat 8 (v.toNat * 2 + c.toNat), c := v.getLsbD 7 } := by
  have hdisjoint : v <<< 1 &&& BitVec.ofNat 8 c.toNat = 0 := by
    ext i hi
    cases c <;> cases i <;> simp
  have hdouble : v <<< 1 = BitVec.ofNat 8 (v.toNat * 2) := congrArg ShiftResult.r (shiftAsl_eq_double v c)
  rw [shiftRol, ← BitVec.add_eq_or_of_and_eq_zero _ _ hdisjoint, hdouble, BitVec.ofNat_add]

/-- ROR's function as arithmetic: the carry goes into bit 7, where a half has a 0 (R123). -/
theorem shiftRor_eq_half_add (v : Byte) (c : Bool) :
    shiftRor v c = { r := BitVec.ofNat 8 (c.toNat * 128 + v.toNat / 2), c := v.getLsbD 0 } := by
  have hdisjoint : BitVec.ofNat 8 (c.toNat * 128) &&& v >>> 1 = 0 := by
    ext i hi
    interval_cases i <;> cases c <;> simp
  rw [shiftRor, ← BitVec.add_eq_or_of_and_eq_zero _ _ hdisjoint, ushiftRight_one_eq_half, BitVec.ofNat_add]

/-- ROL turns the nine bits of carry and byte by one place to the left (R122). -/
theorem cons_shiftRol (v : Byte) (c : Bool) :
    BitVec.cons (shiftRol v c).c (shiftRol v c).r = (BitVec.cons c v).rotateLeft 1 := by
  ext i hi
  interval_cases i <;> cases c <;> simp [shiftRol, BitVec.getElem_cons, BitVec.getElem_rotateLeft]

/-- ROR turns the nine bits of carry and byte by one place to the right (R123). -/
theorem cons_shiftRor (v : Byte) (c : Bool) :
    BitVec.cons (shiftRor v c).c (shiftRor v c).r = (BitVec.cons c v).rotateRight 1 := by
  ext i hi
  interval_cases i <;> cases c <;> simp [shiftRor, BitVec.getElem_cons, BitVec.getElem_rotateRight]

/-- `g` turns nine bits by `d` places: each bit comes from `d` places above it, counted modulo 9. -/
def TurnsBy (g : BitVec 9 → BitVec 9) (d : Nat) : Prop :=
  ∀ w i, i < 9 → (g w).getLsbD i = w.getLsbD ((i + d) % 9)

theorem rotateLeft_turnsBy : TurnsBy (·.rotateLeft 1) 8 := by
  intro w i hi
  interval_cases i <;> simp

theorem rotateRight_turnsBy : TurnsBy (·.rotateRight 1) 1 := by
  intro w i hi
  interval_cases i <;> simp

/-- `k` turns by `d` places are one turn by `d * k`. -/
theorem TurnsBy.iterate {g : BitVec 9 → BitVec 9} {d : Nat} (hg : TurnsBy g d) (k : Nat) : TurnsBy g^[k] (d * k) := by
  induction k with
  | zero => intro w i hi; simp [Nat.mod_eq_of_lt hi]
  | succ k ih =>
    intro w i hi
    rw [Function.iterate_succ_apply, ih (g w) i hi, hg w _ (Nat.mod_lt _ (by decide))]
    congr 1
    rw [Nat.mod_add_mod, Nat.mul_succ, Nat.add_assoc]

/-- Nine turns leave every bit where it was. -/
theorem TurnsBy.iterate_nine {g : BitVec 9 → BitVec 9} {d : Nat} (hg : TurnsBy g d) (w : BitVec 9) : g^[9] w = w := by
  refine BitVec.eq_of_getLsbD_eq fun i hi => ?_
  rw [hg.iterate 9 w i hi, Nat.add_mul_mod_self_right, Nat.mod_eq_of_lt hi]

/-- The carry above A: the nine bits that a rotation of A turns (R122, R123). -/
def State.ring (s : State) : BitVec 9 := BitVec.cons s.flags.c s.a

/-- The ring holds A and the carry. -/
theorem State.of_ring_eq {s t : State} (h : t.ring = s.ring) : t.a = s.a ∧ t.flags.c = s.flags.c := by
  exact ⟨by simpa [State.ring] using congrArg (BitVec.setWidth 8) h,
    by simpa [State.ring] using congrArg BitVec.msb h⟩

/-- What a shift of A leaves alone: all but A, the pc and the flags C, Z and N (R124). -/
structure State.SameButShift (s t : State) : Prop where
  x : t.x = s.x
  y : t.y = s.y
  sp : t.sp = s.sp
  mem : t.mem = s.mem
  d : t.flags.d = s.flags.d
  i : t.flags.i = s.flags.i
  b : t.flags.b = s.flags.b
  v : t.flags.v = s.flags.v

theorem State.SameButShift.trans {s t u : State} (h : s.SameButShift t) (h' : t.SameButShift u) : s.SameButShift u :=
  ⟨h'.x.trans h.x, h'.y.trans h.y, h'.sp.trans h.sp, h'.mem.trans h.mem, h'.d.trans h.d, h'.i.trans h.i,
    h'.b.trans h.b, h'.v.trans h.v⟩

theorem State.shiftAcc_sameButShift (s : State) (f : Byte → Bool → ShiftResult) :
    s.SameButShift ((s.shiftAcc f).advance 1) :=
  ⟨rfl, rfl, rfl, rfl, rfl, rfl, rfl, rfl⟩

end Sys2Proof.Machine

namespace Sys2Proof.Statements

open Sys2Proof.Machine

/-- Settles O8: each form of ASL and ROL is a shift by `shiftAsl` or `shiftRol`, which double (R120, R122). -/
theorem leftShiftsAndRotates : Obligations.LeftShiftsAndRotates := by
  intro s
  have hasl := fun v => shiftAsl_eq_double v s.flags.c
  have hrol := fun v => shiftRol_eq_double_add v s.flags.c
  refine ⟨⟨?aslAcc, fun b w => ⟨?aslZp, ?aslZpX, ?aslAbs, ?aslAbsX⟩⟩,
    ⟨?rolAcc, fun b w => ⟨?rolZp, ?rolZpX, ?rolAbs, ?rolAbsX⟩⟩⟩
  case aslAcc => exact .of_shiftAcc hasl rfl rfl rfl rfl
  case aslZp | aslZpX | aslAbs | aslAbsX => exact .of_shiftMem hasl rfl rfl rfl rfl
  case rolAcc => exact .of_shiftAcc hrol rfl rfl rfl rfl
  case rolZp | rolZpX | rolAbs | rolAbsX => exact .of_shiftMem hrol rfl rfl rfl rfl

/-- Settles O10: each form of ROR is a shift by `shiftRor`, which halves and puts the carry above (R123). -/
theorem rotateRightThroughCarry : Obligations.RotateRightThroughCarry := by
  intro s
  have hror := fun v => shiftRor_eq_half_add v s.flags.c
  refine ⟨?acc, fun b w => ⟨?zp, ?zpX, ?abs, ?absX⟩⟩
  case acc => exact .of_shiftAcc hror rfl rfl rfl rfl
  all_goals exact .of_shiftMem hror rfl rfl rfl rfl

/-- An instruction that turns the ring by `g`, executed `k` times, turns it by `g` `k` times and moves on `k` bytes. -/
theorem execTimes_turns {i : Instr} {f : Byte → Bool → ShiftResult} {g : BitVec 9 → BitVec 9}
    (hexec : ∀ s, exec i s = .next ((s.shiftAcc f).advance 1))
    (hring : ∀ v c, BitVec.cons (f v c).c (f v c).r = g (BitVec.cons c v)) (k : Nat) (s : State) :
    ∃ t, execTimes i k s = .next t ∧ t.ring = g^[k] s.ring ∧ t.pc = s.pc + BitVec.ofNat 16 k ∧ s.SameButShift t := by
  induction k generalizing s with
  | zero => exact ⟨s, rfl, rfl, by simp, rfl, rfl, rfl, rfl, rfl, rfl, rfl, rfl⟩
  | succ k ih =>
    obtain ⟨t, hrun, ht, hpc, hsame⟩ := ih ((s.shiftAcc f).advance 1)
    refine ⟨t, ?_, ?_, ?_, (s.shiftAcc_sameButShift f).trans hsame⟩
    · simp only [execTimes, hexec, hrun]
    · rw [ht, Function.iterate_succ_apply]
      exact congrArg g^[k] (hring s.a s.flags.c)
    · rw [hpc, State.advance_pc, State.shiftAcc_pc, BitVec.add_assoc, ← BitVec.ofNat_add, Nat.add_comm]

/-- Settles O11: a rotation of A turns the ring of nine bits by one place, so nine of them leave it as it was (R122,
R123). -/
theorem nineRotationsRestore : Obligations.NineRotationsRestore := by
  intro s i hi
  obtain ⟨g, d, hg, hturns⟩ : ∃ g d, TurnsBy g d ∧ ∀ k s, ∃ t, execTimes i k s = .next t ∧ t.ring = g^[k] s.ring
      ∧ t.pc = s.pc + BitVec.ofNat 16 k ∧ s.SameButShift t := by
    obtain rfl | rfl : i = .rolAcc ∨ i = .rorAcc := by simpa using hi
    · exact ⟨_, _, rotateLeft_turnsBy, execTimes_turns (fun _ => rfl) cons_shiftRol⟩
    · exact ⟨_, _, rotateRight_turnsBy, execTimes_turns (fun _ => rfl) cons_shiftRor⟩
  obtain ⟨t, hrun, hring, hpc, hsame⟩ := hturns 9 s
  obtain ⟨ha, hc⟩ := State.of_ring_eq (hring.trans (hg.iterate_nine _))
  exact ⟨t, hrun, ha, hc, hpc, hsame.x, hsame.y, hsame.sp, hsame.mem, hsame.d, hsame.i, hsame.b, hsame.v⟩

end Sys2Proof.Statements

/-! PROOFS. The statements about every instruction and every step: completion, the frames, the invariant. What an
instruction can do is said once (`exec_performs`): one of the effects that the meanings share, and a new pc. What an effect
does to a field is said once for each field, so each statement is a case analysis of effects, not of instructions. -/

namespace Sys2Proof.Machine

open Sys2Proof.Config Sys2Proof.Safety

/-- What an instruction can do to the state, but for the pc: the operations that the meanings of the 151 rows share. -/
inductive Effect where
  | keep                                             -- NOP, JMP and the branches
  | adc (m : Byte)
  | sbc (m : Byte)
  | compare (reg m : Byte)
  | bitTest (m : Byte)
  | putA (r : Byte)
  | putX (r : Byte)
  | putY (r : Byte)
  | putS (r : Byte)
  | setC (c : Bool)
  | setD (d : Bool)
  | setI (i : Bool)
  | clearV
  | shiftAcc (f : Byte → Bool → ShiftResult)
  | shiftMem (f : Byte → Bool → ShiftResult) (a : Word)
  | incMem (a : Word)
  | decMem (a : Word)
  | write (a : Word) (v : Byte)
  | push (v : Byte)
  | pullA
  | pullFlags
  | call (w : Word)
  | returnFromCall
  | enter (w : Word)                                 -- BRK, with the return address
  | returnFromInterrupt

/-- The state that an effect leaves, by the model's own operations. -/
def Effect.apply : Effect → State → State
  | .keep, s => s
  | .adc m, s => s.adc m
  | .sbc m, s => s.sbc m
  | .compare reg m, s => s.compare reg m
  | .bitTest m, s => s.bitTest m
  | .putA r, s => s.putA r
  | .putX r, s => s.putX r
  | .putY r, s => s.putY r
  | .putS r, s => { s with sp := r }
  | .setC c, s => { s with flags := { s.flags with c := c } }
  | .setD d, s => { s with flags := { s.flags with d := d } }
  | .setI i, s => s.writeI i
  | .clearV, s => { s with flags := { s.flags with v := false } }
  | .shiftAcc f, s => s.shiftAcc f
  | .shiftMem f a, s => s.shiftMem f a
  | .incMem a, s => s.incMem a
  | .decMem a, s => s.decMem a
  | .write a v, s => s.write a v
  | .push v, s => s.push v
  | .pullA, s => s.afterPull.putA s.pullByte
  | .pullFlags, s => s.pullFlags
  | .call w, s => s.pushWord w
  | .returnFromCall, s => s.returnFromCall
  | .enter w, s => s.interruptEntry .brk w
  | .returnFromInterrupt, s => s.returnFromInterrupt

/-- The mnemonics whose instructions have an effect. -/
def Effect.mnemonics : Effect → List Mnemonic
  | .keep => [.NOP, .JMP, .BCC, .BCS, .BEQ, .BMI, .BNE, .BPL, .BVC, .BVS]
  | .adc _ => [.ADC]
  | .sbc _ => [.SBC]
  | .compare _ _ => [.CMP, .CPX, .CPY]
  | .bitTest _ => [.BIT]
  | .putA _ => [.AND, .EOR, .ORA, .LDA, .TXA, .TYA]
  | .putX _ => [.LDX, .DEX, .INX, .TAX, .TSX]
  | .putY _ => [.LDY, .DEY, .INY, .TAY]
  | .putS _ => [.TXS]
  | .setC _ => [.CLC, .SEC]
  | .setD _ => [.CLD, .SED]
  | .setI _ => [.CLI, .SEI]
  | .clearV => [.CLV]
  | .shiftAcc _ => [.ASL, .LSR, .ROL, .ROR]
  | .shiftMem _ _ => [.ASL, .LSR, .ROL, .ROR]
  | .incMem _ => [.INC]
  | .decMem _ => [.DEC]
  | .write _ _ => [.STA, .STX, .STY]
  | .push _ => [.PHA, .PHP]
  | .pullA => [.PLA]
  | .pullFlags => [.PLP]
  | .call _ => [.JSR]
  | .returnFromCall => [.RTS]
  | .enter _ => [.BRK]
  | .returnFromInterrupt => [.RTI]

/-- The addresses that an effect stores to. -/
def Effect.stores (s : State) : Effect → List Word
  | .shiftMem _ a | .incMem a | .decMem a | .write a _ => [a]
  | .push _ => [stackAddr s.sp]
  | .call _ => [stackAddr s.sp, stackAddr (s.sp - 1)]
  | .enter _ => [stackAddr s.sp, stackAddr (s.sp - 1), stackAddr (s.sp - 1 - 1)]
  | _ => []

/-- In `s` the instruction `i` has the effect `e`: it completes with that effect and some pc, it has a mnemonic of the
effect, and it stores where the effect does. -/
structure Performs (s : State) (i : Instr) (e : Effect) : Prop where
  completes : ∃ pc, exec i s = .next { e.apply s with pc := pc }
  mnemonic : mnemonic i ∈ e.mnemonics
  stores : storeAddrs s i = e.stores s

/-- An instruction whose meaning is an effect and a new pc has that effect. -/
theorem Performs.of_exec {s : State} {i : Instr} {e : Effect} {pc : Word}
    (hexec : exec i s = .next { e.apply s with pc := pc }) (hstores : storeAddrs s i = e.stores s)
    (hmnem : Safety.mnemonic i ∈ e.mnemonics := by simp [Effect.mnemonics, Safety.mnemonic]) : Performs s i e :=
  ⟨⟨pc, hexec⟩, hmnem, hstores⟩

/-- An instruction whose meaning is an effect and the advance of the pc has that effect. -/
theorem Performs.of_advance {s : State} {i : Instr} {e : Effect} {n : Nat}
    (hexec : exec i s = .next ((e.apply s).advance n)) (hstores : storeAddrs s i = e.stores s)
    (hmnem : Safety.mnemonic i ∈ e.mnemonics := by simp [Effect.mnemonics, Safety.mnemonic]) : Performs s i e :=
  .of_exec hexec hstores hmnem

/-- What an instruction can do, said once: it has one of the effects. The cases are grouped by it. -/
theorem exec_performs (i : Instr) (s : State) : ∃ e, Performs s i e := by
  cases i with
  | nop | jmpAbs | jmpInd | bcc | bcs | beq | bmi | bne | bpl | bvc | bvs =>
    exact ⟨.keep, .of_exec rfl rfl⟩
  | adcImm | adcZp | adcZpX | adcAbs | adcAbsX | adcAbsY | adcIndX | adcIndY =>
    exact ⟨.adc _, .of_advance rfl rfl⟩
  | sbcImm | sbcZp | sbcZpX | sbcAbs | sbcAbsX | sbcAbsY | sbcIndX | sbcIndY =>
    exact ⟨.sbc _, .of_advance rfl rfl⟩
  | cmpImm | cmpZp | cmpZpX | cmpAbs | cmpAbsX | cmpAbsY | cmpIndX | cmpIndY | cpxImm | cpxZp | cpxAbs | cpyImm
  | cpyZp | cpyAbs =>
    exact ⟨.compare _ _, .of_advance rfl rfl⟩
  | bitZp | bitAbs =>
    exact ⟨.bitTest _, .of_advance rfl rfl⟩
  | andImm | andZp | andZpX | andAbs | andAbsX | andAbsY | andIndX | andIndY | eorImm | eorZp | eorZpX | eorAbs
  | eorAbsX | eorAbsY | eorIndX | eorIndY | oraImm | oraZp | oraZpX | oraAbs | oraAbsX | oraAbsY | oraIndX | oraIndY
  | ldaImm | ldaZp | ldaZpX | ldaAbs | ldaAbsX | ldaAbsY | ldaIndX | ldaIndY | txa | tya =>
    exact ⟨.putA _, .of_advance rfl rfl⟩
  | ldxImm | ldxZp | ldxZpY | ldxAbs | ldxAbsY | dex | inx | tax | tsx =>
    exact ⟨.putX _, .of_advance rfl rfl⟩
  | ldyImm | ldyZp | ldyZpX | ldyAbs | ldyAbsX | dey | iny | tay =>
    exact ⟨.putY _, .of_advance rfl rfl⟩
  | txs => exact ⟨.putS s.x, .of_advance rfl rfl⟩
  | clc | sec => exact ⟨.setC _, .of_advance rfl rfl⟩
  | cld | sed => exact ⟨.setD _, .of_advance rfl rfl⟩
  | cli | sei => exact ⟨.setI _, .of_advance rfl rfl⟩
  | clv => exact ⟨.clearV, .of_advance rfl rfl⟩
  | aslAcc | lsrAcc | rolAcc | rorAcc =>
    exact ⟨.shiftAcc _, .of_advance rfl rfl⟩
  | aslZp | aslZpX | aslAbs | aslAbsX | lsrZp | lsrZpX | lsrAbs | lsrAbsX | rolZp | rolZpX | rolAbs | rolAbsX | rorZp
  | rorZpX | rorAbs | rorAbsX =>
    exact ⟨.shiftMem _ _, .of_advance rfl rfl⟩
  | incZp | incZpX | incAbs | incAbsX =>
    exact ⟨.incMem _, .of_advance rfl rfl⟩
  | decZp | decZpX | decAbs | decAbsX =>
    exact ⟨.decMem _, .of_advance rfl rfl⟩
  | staZp | staZpX | staAbs | staAbsX | staAbsY | staIndX | staIndY | stxZp | stxZpY | stxAbs | styZp | styZpX
  | styAbs =>
    exact ⟨.write _ _, .of_advance rfl rfl⟩
  | pha | php => exact ⟨.push _, .of_advance rfl rfl⟩
  | pla => exact ⟨.pullA, .of_advance rfl rfl⟩
  | plp => exact ⟨.pullFlags, .of_advance rfl rfl⟩
  | jsr => exact ⟨.call _, .of_exec rfl rfl⟩
  | rts => exact ⟨.returnFromCall, .of_exec rfl rfl⟩
  | brk => exact ⟨.enter (s.pc + brkReturnOffset), .of_exec (pc := (s.interruptEntry .brk _).pc) rfl rfl⟩
  | rti => exact ⟨.returnFromInterrupt, .of_exec rfl rfl⟩

/-- An instruction that answers `t` has an effect that left `t`, but for the pc. -/
theorem performs_of_exec {i : Instr} {s t : State} (h : exec i s = .next t) :
    ∃ e pc, Performs s i e ∧ t = { e.apply s with pc := pc } := by
  obtain ⟨e, hperf⟩ := exec_performs i s
  obtain ⟨pc, hpc⟩ := hperf.completes
  rw [h] at hpc
  exact ⟨e, pc, hperf, Host.Outcome.next.inj hpc⟩

/-! What an effect does to memory: it writes at the addresses it stores to, and that is all. -/

/-- A property of memory that every write at the three bytes below the old S keeps, interrupt entry keeps (R203). -/
theorem State.interruptEntry_mem_of_writes {P : Mem → Prop} {s : State}
    (hw : ∀ (u : State) (a : Word) (v : Byte), a ∈ [stackAddr s.sp, stackAddr (s.sp - 1), stackAddr (s.sp - 1 - 1)] →
      u.params = s.params → P u.mem → P (u.write a v).mem)
    (hs : P s.mem) (k : TrapKind) (ret : Word) : P (s.interruptEntry k ret).mem := by
  have hhi : P (s.push (hiByte ret)).mem := hw s _ _ (by simp) rfl hs
  have hlo : P (s.pushWord ret).mem := hw (s.push (hiByte ret)) _ _ (by simp) rfl hhi
  exact hw (s.pushWord ret) _ _ (by simp) rfl hlo

/-- A property of memory that every write at an address of the effect's keeps, the effect keeps. -/
theorem Effect.apply_mem_of_writes {P : Mem → Prop} (e : Effect) {s : State}
    (hw : ∀ (u : State) (a : Word) (v : Byte), a ∈ e.stores s → u.params = s.params → P u.mem → P (u.write a v).mem)
    (hs : P s.mem) : P (e.apply s).mem := by
  cases e with
  | shiftMem | incMem | decMem | write | push => exact hw s _ _ (List.mem_singleton.mpr rfl) rfl hs
  | call w =>
    have hhi : P (s.push (hiByte w)).mem := hw s _ _ (by simp [Effect.stores]) rfl hs
    exact hw (s.push (hiByte w)) _ _ (by simp [Effect.stores]) rfl hhi
  | enter w => exact State.interruptEntry_mem_of_writes hw hs _ _
  | adc m => exact (State.adc_mem s m).symm ▸ hs
  | sbc m => exact (State.sbc_mem s m).symm ▸ hs
  | _ => exact hs

/-- A write leaves the contents of every other address alone (R31). -/
theorem State.write_mem_get_other (s : State) {a b : Word} (h : b ≠ a) (v : Byte) :
    (s.write a v).mem.get b.toNat = s.mem.get b.toNat := by
  have hne : b.toNat ≠ a.toNat := fun e => h (BitVec.eq_of_toNat_eq e)
  simp only [State.write]
  split
  · exact Mem.get_set_other _ _ hne
  all_goals rfl

/-- A write leaves the contents of an address that is not RAM alone, wherever it goes (R38). -/
theorem State.write_mem_get_of_not_ram (s : State) (a : Word) {b : Word} (hk : s.kindAt b ≠ .ram) (v : Byte) :
    (s.write a v).mem.get b.toNat = s.mem.get b.toNat := by
  by_cases hab : b = a
  · rw [State.write_of_not_ram (hab ▸ hk)]
  · exact State.write_mem_get_other s hab v

/-- Two states with the same byte, parameters and step number read the same there (R31, R38). -/
theorem State.read_eq_of_get {s t : State} {a : Word} (hget : t.mem.get a.toNat = s.mem.get a.toNat)
    (hp : t.params = s.params) (hd : t.draws = s.draws) (use : Access) : t.read use a = s.read use a := by
  simp only [State.read, State.kindAt_congr hp, hget, hd]

/-! What an effect does to the model's own fields, the registers and the flags: it leaves each alone, or it is an effect of
instructions that are listed as writing it. -/

section
variable (e : Effect) (s : State)

theorem Effect.apply_params : (e.apply s).params = s.params := by
  cases e with
  | adc m => exact State.adc_params s m
  | sbc m => exact State.sbc_params s m
  | enter w => exact State.interruptEntry_params s .brk w
  | _ => rfl

theorem Effect.apply_inputs : (e.apply s).inputs = s.inputs := by
  cases e with
  | adc m => exact State.adc_inputs s m
  | sbc m => exact State.sbc_inputs s m
  | enter w => exact State.interruptEntry_inputs s .brk w
  | _ => rfl

theorem Effect.apply_draws : (e.apply s).draws = s.draws := by
  cases e with
  | adc m => exact State.adc_draws s m
  | sbc m => exact State.sbc_draws s m
  | enter w => exact State.interruptEntry_draws s .brk w
  | _ => rfl

/-- The note of the old I is made by exactly the effects of CLI, SEI and PLP (log 8). -/
theorem Effect.apply_prevI :
    ((e.apply s).prevI = s.prevI ∧ e.mnemonics.Disjoint [.CLI, .SEI, .PLP])
      ∨ ((e.apply s).prevI = some s.flags.i ∧ e.mnemonics ⊆ [.CLI, .SEI, .PLP]) := by
  cases e with
  | setI | pullFlags => exact .inr ⟨rfl, by simp [Effect.mnemonics]⟩
  | adc m => exact .inl ⟨State.adc_prevI s m, by simp [Effect.mnemonics]⟩
  | sbc m => exact .inl ⟨State.sbc_prevI s m, by simp [Effect.mnemonics]⟩
  | enter w => exact .inl ⟨State.interruptEntry_prevI s .brk w, by simp [Effect.mnemonics]⟩
  | _ => exact .inl ⟨rfl, by simp [Effect.mnemonics]⟩

theorem Effect.apply_a :
    (e.apply s).a = s.a
      ∨ e.mnemonics ⊆ [.ADC, .AND, .ASL, .EOR, .LDA, .LSR, .ORA, .PLA, .ROL, .ROR, .SBC, .TXA, .TYA] := by
  cases e with
  | adc | sbc | putA | shiftAcc | pullA => exact .inr (by simp [Effect.mnemonics])
  | enter w => exact .inl (State.interruptEntry_a s .brk w)
  | _ => exact .inl rfl

/-- An effect that stores to memory leaves A alone. -/
theorem Effect.apply_a_of_stores (h : e.stores s ≠ []) : (e.apply s).a = s.a := by
  cases e with
  | enter w => exact State.interruptEntry_a s .brk w
  | shiftMem | incMem | decMem | write | push | call => rfl
  | _ => exact absurd rfl h

theorem Effect.apply_x : (e.apply s).x = s.x ∨ e.mnemonics ⊆ [.DEX, .INX, .LDX, .TAX, .TSX] := by
  cases e with
  | putX => exact .inr (by simp [Effect.mnemonics])
  | adc m => exact .inl (State.adc_x s m)
  | sbc m => exact .inl (State.sbc_x s m)
  | enter w => exact .inl (State.interruptEntry_x s .brk w)
  | _ => exact .inl rfl

theorem Effect.apply_y : (e.apply s).y = s.y ∨ e.mnemonics ⊆ [.DEY, .INY, .LDY, .TAY] := by
  cases e with
  | putY => exact .inr (by simp [Effect.mnemonics])
  | adc m => exact .inl (State.adc_y s m)
  | sbc m => exact .inl (State.sbc_y s m)
  | enter w => exact .inl (State.interruptEntry_y s .brk w)
  | _ => exact .inl rfl

theorem Effect.apply_sp :
    (e.apply s).sp = s.sp ∨ e.mnemonics ⊆ [.TXS, .BRK, .JSR, .PHA, .PHP, .PLA, .PLP, .RTI, .RTS] := by
  cases e with
  | putS | push | pullA | pullFlags | call | returnFromCall | enter | returnFromInterrupt =>
    exact .inr (by simp [Effect.mnemonics])
  | adc m => exact .inl (State.adc_sp s m)
  | sbc m => exact .inl (State.sbc_sp s m)
  | _ => exact .inl rfl

theorem Effect.apply_c :
    (e.apply s).flags.c = s.flags.c
      ∨ e.mnemonics ⊆ [.ADC, .SBC, .ASL, .LSR, .ROL, .ROR, .CMP, .CPX, .CPY, .CLC, .SEC, .PLP, .RTI] := by
  cases e with
  | adc | sbc | shiftAcc | shiftMem | compare | setC | pullFlags | returnFromInterrupt =>
    exact .inr (by simp [Effect.mnemonics])
  | _ => exact .inl rfl

theorem Effect.apply_zn :
    ((e.apply s).flags.z = s.flags.z ∧ (e.apply s).flags.n = s.flags.n)
      ∨ e.mnemonics ⊆ [.ADC, .SBC, .AND, .EOR, .ORA, .ASL, .LSR, .ROL, .ROR, .BIT, .CMP, .CPX, .CPY, .DEC, .DEX,
        .DEY, .INC, .INX, .INY, .LDA, .LDX, .LDY, .PLA, .PLP, .RTI, .TAX, .TAY, .TSX, .TXA, .TYA] := by
  cases e with
  | keep | putS | setC | setD | setI | clearV | write | push | call | returnFromCall | enter => exact .inl ⟨rfl, rfl⟩
  | _ => exact .inr (by simp [Effect.mnemonics])

theorem Effect.apply_v :
    (e.apply s).flags.v = s.flags.v ∨ e.mnemonics ⊆ [.ADC, .SBC, .BIT, .CLV, .PLP, .RTI] := by
  cases e with
  | adc | sbc | bitTest | clearV | pullFlags | returnFromInterrupt => exact .inr (by simp [Effect.mnemonics])
  | _ => exact .inl rfl

theorem Effect.apply_d : (e.apply s).flags.d = s.flags.d ∨ e.mnemonics ⊆ [.CLD, .SED, .PLP, .RTI] := by
  cases e with
  | setD | pullFlags | returnFromInterrupt => exact .inr (by simp [Effect.mnemonics])
  | adc m => exact .inl (State.adc_flags_d s m)
  | sbc m => exact .inl (State.sbc_flags_d s m)
  | _ => exact .inl rfl

theorem Effect.apply_i : (e.apply s).flags.i = s.flags.i ∨ e.mnemonics ⊆ [.CLI, .SEI, .PLP, .RTI, .BRK] := by
  cases e with
  | setI | pullFlags | returnFromInterrupt | enter => exact .inr (by simp [Effect.mnemonics])
  | adc m => exact .inl (State.adc_flags_i s m)
  | sbc m => exact .inl (State.sbc_flags_i s m)
  | _ => exact .inl rfl

/-- Where `BRK_SETS_I` does not hold, BRK leaves I alone too (R203). -/
theorem Effect.apply_i_of_not_brkSetsI (h : s.params.brkSetsI = false) :
    (e.apply s).flags.i = s.flags.i ∨ e.mnemonics ⊆ [.CLI, .SEI, .PLP, .RTI] := by
  cases e with
  | setI | pullFlags | returnFromInterrupt => exact .inr (by simp [Effect.mnemonics])
  | enter w => exact .inl (by simp [Effect.apply, TrapKind.iAfter, h])
  | adc m => exact .inl (State.adc_flags_i s m)
  | sbc m => exact .inl (State.sbc_flags_i s m)
  | _ => exact .inl rfl

/-- The field for a stored B is left alone by every effect under `pushed_only` (log 15). -/
theorem Effect.apply_b :
    (e.apply s).flags.b = s.flags.b
      ∨ e.mnemonics ⊆ [.BRK, .PLP, .RTI] ∧ (s.params.bModel = .pushedOnly → (e.apply s).flags.b = s.flags.b) := by
  cases e with
  | pullFlags | returnFromInterrupt =>
    exact .inr ⟨by simp [Effect.mnemonics], fun h => by simp [Effect.apply, unpackP, h]⟩
  | enter w => exact .inr ⟨by simp [Effect.mnemonics], fun h => by simp [Effect.apply, TrapKind.bAfter, h]⟩
  | adc m => exact .inl (State.adc_flags_b s m)
  | sbc m => exact .inl (State.sbc_flags_b s m)
  | _ => exact .inl rfl

end

/-- What an effect leaves alone unless it is an effect of listed instructions, an instruction that is not listed leaves
alone. -/
theorem Performs.of_not_listed {s : State} {i : Instr} {e : Effect} {writers : List Mnemonic} {unchanged : Prop}
    (hperf : Performs s i e) (h : unchanged ∨ e.mnemonics ⊆ writers) (hm : Safety.mnemonic i ∉ writers) : unchanged :=
  h.resolve_right fun hsub => hm (hsub hperf.mnemonic)

/-! What a step can do, by what its instruction, its interrupt entry or its reset can do. -/

/-- Every instruction answers a next state (spec/60_exceptions.md R201). -/
theorem exec_completes (i : Instr) (s : State) : ∃ t, exec i s = .next t := by
  obtain ⟨e, hperf⟩ := exec_performs i s
  obtain ⟨pc, hpc⟩ := hperf.completes
  exact ⟨_, hpc⟩

theorem exec_params {i : Instr} {s t : State} (h : exec i s = .next t) : t.params = s.params := by
  obtain ⟨e, pc, -, rfl⟩ := performs_of_exec h
  exact e.apply_params s

/-- No step changes the platform's parameters (spec/00_scope.md section 5). -/
theorem step_params {s t : State} (h : step s = .next t) : t.params = s.params := by
  obtain ⟨-, rfl⟩ | ⟨-, rfl⟩ | ⟨-, i, -, hexec⟩ := step_cases h
  · rfl
  · exact State.interruptEntry_params s.beginStep .irq s.pc
  · exact (exec_params hexec).trans s.beginStep_params

/-- A property of memory that every write keeps, every step keeps. -/
theorem step_mem_of_writes {P : Mem → Prop} {s t : State} (h : step s = .next t)
    (hw : ∀ (u : State) (a : Word) (v : Byte), u.params = s.params → P u.mem → P (u.write a v).mem) (hs : P s.mem) :
    P t.mem := by
  obtain ⟨-, rfl⟩ | ⟨-, rfl⟩ | ⟨-, i, -, hexec⟩ := step_cases h
  · exact hs
  · exact State.interruptEntry_mem_of_writes (s := s.beginStep) (fun u a v _ => hw u a v) hs _ _
  · obtain ⟨e, pc, -, rfl⟩ := performs_of_exec hexec
    exact e.apply_mem_of_writes (s := s.beginStep) (fun u a v _ => hw u a v) hs

/-- A reset and an interrupt entry complete; so a step that does not is about to execute (R202, R205). -/
theorem step_completes_of_boundary {s : State} (h : s.boundary ≠ .execute) : ∃ t, step s = .next t := by
  unfold step
  cases hb : s.boundary with
  | reset => exact ⟨_, rfl⟩
  | irq => exact ⟨_, rfl⟩
  | execute => exact absurd hb h

end Sys2Proof.Machine

namespace Sys2Proof.Statements

open Sys2Proof.Machine Sys2Proof.Safety

/-- Settles O49: writes keep memory's canonical form, and all that a step does to memory is to write. -/
theorem stepKeepsTheInvariant : Obligations.StepKeepsTheInvariant := by
  intro p s t ⟨hwf, hp⟩ hstep
  refine ⟨?_, (step_params hstep).trans hp⟩
  exact step_mem_of_writes (P := fun m => m.wf = true) hstep (fun _ a v _ hu => State.write_wf hu a v) hwf

/-- Settles O50: the empty list is in canonical form. -/
theorem resetHasTheInvariant : Obligations.ResetHasTheInvariant :=
  ⟨Mem.wf_nil, rfl⟩

/-- Settles O51: a write leaves the contents at an address that is not RAM alone, and all that a step does to memory is to
write (R38). -/
theorem onlyRamChanges : Obligations.OnlyRamChanges := by
  intro s t a hstep hk
  refine step_mem_of_writes (P := fun m => m.get a.toNat = s.mem.get a.toNat) hstep (fun u b v hp hu => ?_) rfl
  have hku : u.kindAt a ≠ .ram := by rwa [State.kindAt_congr hp]
  exact (State.write_mem_get_of_not_ram u b hku v).trans hu

/-- Settles O52: every instruction has an effect, and completes with it. -/
theorem everyInstructionCompletes : Obligations.EveryInstructionCompletes :=
  exec_completes

/-- Settles O53: a reset, an interrupt entry and every instruction complete; what is left is an undefined opcode byte
(R67). -/
theorem stepStopsOnlyAtUndefinedOpcodes : Obligations.StepStopsOnlyAtUndefinedOpcodes := by
  intro s
  constructor
  · rintro ⟨t, hstep⟩ ⟨hb, hfetch⟩
    rw [step_of_undefined hb hfetch] at hstep
    exact absurd hstep (by simp)
  · intro hdefined
    by_cases hb : s.boundary = .execute
    · obtain ⟨i, hi⟩ := Option.ne_none_iff_exists'.mp fun hnone => hdefined ⟨hb, hnone⟩
      rw [step_of_fetch hb hi]
      exact exec_completes i s.beginStep
    · exact step_completes_of_boundary hb

/-- Settles O54: an effect writes only at the addresses it stores to, which are those the instruction computes. -/
theorem storesGoWhereComputed : Obligations.StoresGoWhereComputed := by
  intro i s t hexec a ha use
  obtain ⟨e, pc, hperf, rfl⟩ := performs_of_exec hexec
  rw [hperf.stores] at ha
  have hget : (e.apply s).mem.get a.toNat = s.mem.get a.toNat := by
    refine e.apply_mem_of_writes (P := fun m => m.get a.toNat = s.mem.get a.toNat) (fun u b v hb _ hu => ?_) rfl
    have hne : a ≠ b := fun hab => ha (hab ▸ hb)
    exact (State.write_mem_get_other u hne v).trans hu
  exact State.read_eq_of_get hget (e.apply_params s) (e.apply_draws s) use

/-- Settles O55: register by register, the effects that write it are those of the listed instructions. -/
theorem registersChangeOnlyByTheirWriters : Obligations.RegistersChangeOnlyByTheirWriters := by
  intro i s t hexec
  obtain ⟨e, pc, hperf, rfl⟩ := performs_of_exec hexec
  exact ⟨hperf.of_not_listed (e.apply_a s), fun hst => e.apply_a_of_stores s (hperf.stores ▸ hst),
    hperf.of_not_listed (e.apply_x s), hperf.of_not_listed (e.apply_y s), hperf.of_not_listed (e.apply_sp s)⟩

/-- Settles O56: flag by flag, the effects that write it are those of the listed instructions; BRK writes I by
`BRK_SETS_I` only, and nothing writes the field for B under `pushed_only`. -/
theorem flagsChangeOnlyByTheirWriters : Obligations.FlagsChangeOnlyByTheirWriters := by
  intro i s t hexec
  obtain ⟨e, pc, hperf, rfl⟩ := performs_of_exec hexec
  refine ⟨hperf.of_not_listed (e.apply_c s), hperf.of_not_listed (e.apply_zn s), hperf.of_not_listed (e.apply_v s),
    hperf.of_not_listed (e.apply_d s), ?i, ?iOfBrk, ?b, ?bOfPushedOnly⟩
  case i => exact hperf.of_not_listed (e.apply_i s)
  case iOfBrk => exact fun hbrk hset => hperf.of_not_listed (e.apply_i_of_not_brkSetsI s hset) (by simp [hbrk])
  case b => exact hperf.of_not_listed ((e.apply_b s).imp_right And.left)
  case bOfPushedOnly => exact fun h => (e.apply_b s).elim id fun hb => hb.2 h

/-- Settles O58: no effect touches the parameters, the inputs or the step number; the note of the old I is made by exactly
the effects of CLI, SEI and PLP. -/
theorem modelFieldsAreLeftAlone : Obligations.ModelFieldsAreLeftAlone := by
  intro i s t hexec
  obtain ⟨e, pc, hperf, rfl⟩ := performs_of_exec hexec
  refine ⟨e.apply_params s, e.apply_inputs s, e.apply_draws s, ?_, ?_⟩
  · exact hperf.of_not_listed ((e.apply_prevI s).imp And.left And.right)
  · exact fun hm => ((e.apply_prevI s).resolve_left fun h => h.2 hperf.mnemonic hm).1

/-- Settles O59: with ADC, SBC and the instructions that push or load D set aside, no operation of an instruction's meaning
looks at D, and each leaves it: the same meaning, unfolded on both sides, is the same state but for D. -/
theorem decimalFlagTouchesOnlyArithmetic : Obligations.DecimalFlagTouchesOnlyArithmetic := by
  intro i s t d hm hexec
  cases i with
  | adcImm | adcZp | adcZpX | adcAbs | adcAbsX | adcAbsY | adcIndX | adcIndY | sbcImm | sbcZp | sbcZpX | sbcAbs | sbcAbsX
  | sbcAbsY | sbcIndX | sbcIndY | php | plp | rti | brk | cld | sed =>
    simp [mnemonic] at hm
  | _ =>
    obtain rfl := Host.Outcome.next.inj hexec
    rfl

end Sys2Proof.Statements

/-! PROOFS. The statements of spec/30_encoding.md section 2 and spec/20_memory.md on addresses as numbers, and of
spec/43_branches.md. -/

namespace Sys2Proof.Machine

/-- `EA(ZPX)` and `EA(ZPY)` as numbers: the sum of two bytes wraps within page $00 (R57, R58). -/
theorem zeroPage_add_toNat (b i : Byte) : (zeroPage (b + i)).toNat = (b.toNat + i.toNat) % 256 := by
  rw [zeroPage_toNat, BitVec.toNat_add]

/-- An address with the number of a byte is that byte's in page $00. -/
theorem eq_zeroPage {p : Word} {b : Byte} (h : p.toNat = b.toNat) : p = zeroPage b :=
  BitVec.eq_of_toNat_eq (h.trans (zeroPage_toNat b).symm)

/-- A pointer in page $00 as a number, from any two addresses with the numbers of its two bytes' (R64, R65). -/
theorem zeroPagePointer_toNat_of_addrs (s : State) {b : Byte} {p q : Word} (hp : p.toNat = b.toNat)
    (hq : q.toNat = (b.toNat + 1) % 256) :
    (zeroPagePointer s b).toNat = (s.read .pointer q).toNat * 256 + (s.read .pointer p).toNat := by
  have hq' : q = zeroPage (b + 1) := eq_zeroPage (hq.trans (BitVec.toNat_add b 1).symm)
  rw [zeroPagePointer_toNat, eq_zeroPage hp, hq']

/-- An indexed address leaves its base's page exactly when the low byte and the index make a carry (R70). -/
theorem crossing_add_index (w : Word) (i : Byte) :
    crossing w (w + i.setWidth 16) = if 256 ≤ w.toNat % 256 + i.toNat then 1 else 0 := by
  have hw := w.isLt
  have hi := i.isLt
  have hpage : pageOf (w + i.setWidth 16) = pageOf w ↔ ¬ 256 ≤ w.toNat % 256 + i.toNat := by
    rw [pageOf, pageOf, ← BitVec.toNat_inj, hiByte_toNat, hiByte_toNat, BitVec.toNat_add, BitVec.toNat_setWidth]
    omega
  rw [crossing, ite_cond_congr (propext hpage), ite_not]

/-- A branch's target as the next instruction's address plus the signed displacement, modulo 65536 (R59, R130). -/
theorem branchTarget_eq_ofInt (s : State) (rel : Byte) :
    branchTarget s rel = BitVec.ofInt 16 ((s.pc + 2).toNat + rel.toInt) := by
  rw [branchTarget, branchNext, BitVec.ofInt_add, BitVec.ofInt_natCast, BitVec.ofNat_toNat, BitVec.setWidth_eq]
  rfl

/-- Two addresses are in one page when their numbers are in one block of 256 (spec/20_memory.md R33). -/
theorem pageOf_eq_iff (a b : Word) : pageOf a = pageOf b ↔ a.toNat / 256 = b.toNat / 256 := by
  rw [pageOf, pageOf, ← BitVec.toNat_inj, hiByte_toNat, hiByte_toNat]

end Sys2Proof.Machine

namespace Sys2Proof.Statements

open Sys2Proof.Machine

/-- Settles O28: a byte is its own address in page $00, and the absolute sums wrap at 65536 (R56 to R62). -/
theorem directModesAsNumbers : Obligations.DirectModesAsNumbers := fun s b w =>
  ⟨zeroPage_toNat b, zeroPage_add_toNat b s.x, zeroPage_add_toNat b s.y, rfl, eaAbsX_toNat s w, eaAbsY_toNat s w⟩

/-- Settles O29: both modes read a pointer in page $00, (Indirect,X) at b + X, (Indirect),Y at b and adding Y to what it
read (R64, R65). -/
theorem indirectModesAsNumbers : Obligations.IndirectModesAsNumbers := by
  intro s b p q
  constructor
  · intro hp hq
    have hsum : (b + s.x).toNat = (b.toNat + s.x.toNat) % 256 := BitVec.toNat_add b s.x
    exact zeroPagePointer_toNat_of_addrs s (hp.trans hsum.symm) (by rw [hq, hsum, Nat.mod_add_mod])
  · intro hp hq
    rw [← zeroPagePointer_toNat_of_addrs s hp hq]
    exact eaAbsY_toNat s (zeroPagePointer s b)

/-- Settles O30: Absolute,X and Absolute,Y add their index to the base (R61, R62, R70). -/
theorem pageCrossingCostsOneCycle : Obligations.PageCrossingCostsOneCycle := fun s w =>
  ⟨crossing_add_index w s.x, crossing_add_index w s.y⟩

/-- Settles O33: the second byte is read at the address whose number is one more, modulo 65536 (R32). -/
theorem wordsAreLittleEndian : Obligations.WordsAreLittleEndian := by
  intro s use a b hb
  have hnext : a + 1 = b := BitVec.eq_of_toNat_eq ((BitVec.toNat_add a 1).trans hb.symm)
  rw [State.readWord, wordOf_toNat, hnext]

/-- Settles O32: what an access does is read off the map's kind of the address (R38). -/
theorem mapDecidesWhatAnAccessDoes : Obligations.MapDecidesWhatAnAccessDoes := by
  intro s a v use
  have hwrite : s.kindAt a ≠ .ram → s.write a v = s := fun hk => State.write_of_not_ram hk v
  refine ⟨fun hk => ⟨?_, hwrite (by simp [hk])⟩, fun hk => ⟨?_, hwrite (by simp [hk])⟩,
    fun hk => ⟨?_, hwrite (by simp [hk])⟩⟩
  all_goals simp only [State.read, hk]

/-- An instruction that branches on the flag `cond` runs, taken and not, to the addresses and in the cycles of R130 and
R234. -/
theorem branchesWhen_of_branch {s : State} {rel : Byte} {i : Instr} {opcode : Byte} {cond : Bool}
    (hexec : exec i s = .next (s.branch cond rel)) (hopcode : (encode i).head? = some opcode)
    (hlen : (encode i).length = 2) (hcycles : cycles s i = branchCycles s cond rel) :
    BranchesWhen s rel i opcode (cond = true) := by
  have hpage := pageOf_eq_iff (branchTarget s rel) (branchNext s)
  rw [branchTarget_eq_ofInt] at hpage
  constructor
  · rintro rfl
    refine ⟨hopcode, hlen, ?_, ?_⟩
    · rw [hcycles, branchCycles, if_pos rfl, branchTarget_eq_ofInt, ite_cond_congr (propext hpage)]
      rfl
    · rw [hexec, State.branch, if_pos rfl, branchTarget_eq_ofInt]
  · intro hcond
    obtain rfl : cond = false := by simpa using hcond
    exact ⟨hopcode, hlen, hcycles, hexec⟩

/-- The same for an instruction that branches when the flag is 0. -/
theorem branchesWhen_of_branch_not {s : State} {rel : Byte} {i : Instr} {opcode : Byte} {flag : Bool}
    (hexec : exec i s = .next (s.branch (!flag) rel)) (hopcode : (encode i).head? = some opcode)
    (hlen : (encode i).length = 2) (hcycles : cycles s i = branchCycles s (!flag) rel) :
    BranchesWhen s rel i opcode (flag = false) := by
  rw [← Bool.not_eq_true']
  exact branchesWhen_of_branch hexec hopcode hlen hcycles

/-- Settles O12: the meaning of each of the eight is `branch` on its flag, or on the flag's complement (R130 to R138). -/
theorem branchesByDisplacement : Obligations.BranchesByDisplacement := by
  intro s rel
  refine ⟨?bcc, ?bcs, ?beq, ?bmi, ?bne, ?bpl, ?bvc, ?bvs⟩
  case bcs | beq | bmi | bvs => exact branchesWhen_of_branch rfl rfl rfl rfl
  case bcc | bne | bpl | bvc => exact branchesWhen_of_branch_not rfl rfl rfl rfl

end Sys2Proof.Statements

/-! PROOFS. The statements on the stack: spec/20_memory.md section 3, spec/10_state.md section 4, and the pushes, pulls,
calls and returns of spec/44_system.md, spec/47_jumps.md and spec/49_stack_transfer.md. The packed status byte is fixed by its
bits, and S counts modulo 256, so that two decrements are a subtraction of 2. -/

namespace Sys2Proof.Machine

open Sys2Proof.Config

theorem Byte.sub_one_sub_one (p : Byte) : p - 1 - 1 = p - 2 := by bv_omega

theorem Byte.sub_one_sub_one_sub_one (p : Byte) : p - 1 - 1 - 1 = p - 3 := by bv_omega

theorem Byte.add_one_add_one (p : Byte) : p + 1 + 1 = p + 2 := by bv_omega

theorem Byte.add_one_add_one_add_one (p : Byte) : p + 1 + 1 + 1 = p + 3 := by bv_omega

/-- An address with the number of a stack address is it. -/
theorem eq_stackAddr {a : Word} {p : Byte} (h : a.toNat = 256 + p.toNat) : a = stackAddr p :=
  BitVec.eq_of_toNat_eq (h.trans (stackAddr_toNat p).symm)

/-- The byte that the second of two pulls returns (R34). -/
theorem State.afterPull_pullByte (s : State) : s.afterPull.pullByte = s.read .stack (stackAddr (s.sp + 2)) := by
  rw [← Byte.add_one_add_one]
  exact State.read_congr rfl rfl rfl _ _

/-- The byte that the third of three pulls returns (R34). -/
theorem State.afterPull_afterPull_pullByte (s : State) :
    s.afterPull.afterPull.pullByte = s.read .stack (stackAddr (s.sp + 3)) := by
  rw [← Byte.add_one_add_one_add_one]
  exact State.read_congr rfl rfl rfl _ _

/-- A 16-bit push as two writes and one change of S (R34). -/
theorem State.pushWord_eq (s : State) (w : Word) :
    s.pushWord w =
      { (s.write (stackAddr s.sp) (hiByte w)).write (stackAddr (s.sp - 1)) (loByte w) with sp := s.sp - 2 } := by
  rw [← Byte.sub_one_sub_one]
  rfl

end Sys2Proof.Machine

namespace Sys2Proof.Statements

open Sys2Proof.Machine

/-- Bits 7 to 0 of the status byte fix it (R17). -/
theorem eq_packP_of_packs {p : Byte} {f : Flags} {b4 : Bool} (h : Packs p f b4) : p = packP f b4 := by
  obtain ⟨h0, h1, h2, h3, h4, h5, h6, h7⟩ := h
  obtain ⟨g0, g1, g2, g3, g4, g5, g6, g7⟩ := packP_bits f b4
  refine BitVec.eq_of_getLsbD_eq fun i hi => ?_
  interval_cases i <;> simp only [*]

/-- `UnpackP` is what the statements write out (R18). -/
theorem unpackP_eq_fromStack (m : Config.BModel) (f : Flags) (p : Byte) : unpackP m f p = fromStack m f p := by
  cases m <;> rfl

/-- Settles O34: the address is the stack's for S, or for S + 1 (R34). -/
theorem stackLivesInPageOne : Obligations.StackLivesInPageOne := by
  intro s v a
  constructor
  · intro ha
    have hsp : s.sp - 1 = BitVec.ofNat 8 (s.sp.toNat + 255) := by bv_omega
    rw [eq_stackAddr ha, ← hsp]
    rfl
  · intro ha
    have hsp : s.sp + 1 = BitVec.ofNat 8 (s.sp.toNat + 1) := by bv_omega
    have ha' : a = stackAddr (s.sp + 1) := eq_stackAddr (ha.trans (by rw [BitVec.toNat_add]; rfl))
    rw [ha', ← hsp]
    exact ⟨rfl, rfl⟩

/-- Settles O35: the eight bits of `PackP`, and what `UnpackP` makes of them (R17, R18). -/
theorem statusBytePacking : Obligations.StatusBytePacking := fun f g b4 =>
  ⟨packP_bits f b4, unpackP_packP .latch f g b4, unpackP_packP .pushedOnly f g b4⟩

/-- Settles O25: PHA pushes A; the byte of PHP is the one that packs the flags (R190, R191). -/
theorem pushOfAccumulatorAndStatus : Obligations.PushOfAccumulatorAndStatus := by
  intro s
  refine ⟨⟨rfl, rfl, rfl, rfl⟩, fun p hp => ⟨rfl, rfl, rfl, ?_⟩⟩
  have hbyte : p = packP s.flags (phpBit4 s.params.bModel s.flags) := by
    refine eq_packP_of_packs ?_
    cases hm : s.params.bModel <;> simpa [phpBit4, hm] using hp
  rw [hbyte]
  rfl

/-- Settles O26: PLA and PLP pull one byte, into A with its Z and N, or into the flags (R192, R193). -/
theorem pullOfAccumulatorAndStatus : Obligations.PullOfAccumulatorAndStatus := by
  intro s p
  refine ⟨⟨rfl, rfl, rfl, rfl⟩, ⟨rfl, rfl, rfl, ?_⟩⟩
  rw [← unpackP_eq_fromStack]
  rfl

/-- Settles O20: JSR pushes pc + 2 and goes to its operand (R171). -/
theorem callPushesReturnPointMinusOne : Obligations.CallPushesReturnPointMinusOne := by
  intro s target
  refine ⟨rfl, rfl, rfl, ?_⟩
  have hcall : exec (.jsr target) s = .next { s.pushWord (s.pc + 2) with pc := target } := rfl
  rw [hcall, State.pushWord_eq]

/-- Settles O21: RTS pulls two bytes, the low one first, and adds one (R172). -/
theorem returnAddsOne : Obligations.ReturnAddsOne := by
  intro s
  refine ⟨rfl, rfl, rfl, ?_⟩
  rw [← State.afterPull_pullByte, ← Byte.add_one_add_one]
  rfl

/-- Settles O14: RTI pulls the status and then the pc, low byte first, with nothing added (R142). -/
theorem rtiPullsStatusThenPc : Obligations.RtiPullsStatusThenPc := by
  intro s
  refine ⟨rfl, rfl, rfl, ?_⟩
  rw [← unpackP_eq_fromStack, ← State.afterPull_pullByte, ← State.afterPull_afterPull_pullByte,
    ← Byte.add_one_add_one_add_one]
  rfl

end Sys2Proof.Statements

/-! PROOFS. The statements of spec/60_exceptions.md and spec/70_reset_and_hazards.md, and those that pair what pushes with
what pulls: an entry with RTI, JSR with RTS, PHP with PLP, PHA with PLA. -/

namespace Sys2Proof.Machine

open Sys2Proof.Config Sys2Proof.Safety

/-- A state that reads two stack bytes as `hi` and `lo` pulls the word of the two, whatever else it holds (R34). -/
theorem State.pullWord_eq {h : State} {sp : Byte} {w : Word} (hsp : h.sp = sp - 2)
    (hhi : h.read .stack (stackAddr sp) = hiByte w) (hlo : h.read .stack (stackAddr (sp - 1)) = loByte w) :
    h.pullWord = w := by
  have h1 : h.sp + 1 = sp - 1 := by bv_omega
  have h2 : h.sp + 2 = sp := by bv_omega
  rw [State.pullWord, State.afterPull_pullByte, State.pullByte, h1, h2, hhi, hlo, wordOf_hiByte_loByte]

/-- A byte pushed on RAM is what a pull after it returns (R34). -/
theorem State.pullByte_push_advance {s : State} (hwf : s.mem.wf = true) (hk : s.kindAt (stackAddr s.sp) = .ram) (v : Byte)
    (n : Nat) : ((s.push v).advance n).pullByte = v := by
  have haddr : ((s.push v).advance n).sp + 1 = s.sp := by
    rw [State.advance_sp, State.push_sp]
    bv_omega
  have hread : ∀ a, ((s.push v).advance n).read .stack a = (s.push v).read .stack a := fun a =>
    State.read_congr rfl rfl rfl .stack a
  rw [State.pullByte, haddr, hread]
  exact State.read_push_same hwf hk v .stack

/-- The byte that PHP pushes unpacks to the flags that it packed, B included (R17, R18). -/
theorem unpackP_php (m : BModel) (f : Flags) : unpackP m f (packP f (phpBit4 m f)) = f := by
  rw [unpackP_packP]
  cases m <;> rfl

/-- The I that entry leaves, by kind and `BRK_SETS_I` (R203). -/
theorem TrapKind.iAfter_eq (k : TrapKind) (p : Params) (i : Bool) :
    k.iAfter p i = if k = .irq ∨ p.brkSetsI = true then true else i := by
  cases k <;> cases h : p.brkSetsI <;> simp [TrapKind.iAfter, h]

/-- The B that entry leaves, by kind where B is stored (R203). -/
theorem TrapKind.bAfter_eq (k : TrapKind) (p : Params) (b : Bool) :
    k.bAfter p b = if p.bModel = .latch then decide (k = .brk) else b := by
  cases k <;> cases h : p.bModel <;> simp [TrapKind.bAfter, TrapKind.bit4, h]

/-- Entry loads the pc from $FFFE/F, the low byte first, as memory is after the pushes (R203). -/
theorem State.interruptEntry_pc (s : State) (k : TrapKind) (ret : Word) :
    (s.interruptEntry k ret).pc =
      wordOf ((s.interruptEntry k ret).read .vector 0xFFFF) ((s.interruptEntry k ret).read .vector 0xFFFE) := by
  have hread : ∀ a, (s.interruptEntry k ret).read .vector a
      = ((s.pushWord ret).push (packP s.flags k.bit4)).read .vector a := fun a =>
    State.read_congr (by simp) (by simp) (by simp) .vector a
  rw [hread, hread]
  rfl

/-- The environment's input is the first of those to come. -/
theorem State.input_cons {s : State} {b : BoundaryInput} {bs : List BoundaryInput} (h : s.inputs = b :: bs) :
    s.input = b := by
  rw [State.input, h, List.headD_cons]

theorem State.input_nil {s : State} (h : s.inputs = []) : s.input = .quiet := by
  rw [State.input, h, List.headD_nil]

/-- Where nothing reset and the line is asserted, the mask decides: 0 takes the request, 1 executes (R202). -/
theorem step_of_request {s : State} (hr : s.input.reset = false) (hi : s.input.irq = true) :
    (s.mask = false → step s = .next (s.beginStep.interruptEntry .irq s.pc)) ∧ (s.mask = true → s.boundary = .execute) := by
  refine ⟨fun hm => ?_, fun hm => s.boundary_eq_execute.mpr ⟨hr, .inr hm⟩⟩
  rw [step, s.boundary_eq_irq.mpr ⟨hr, hi, hm⟩]

/-- A reset released at the boundary is the step (R205, R230). -/
theorem step_of_reset {s : State} (hr : s.input.reset = true) : step s = .next s.beginStep.resetSequence := by
  rw [step, s.boundary_eq_reset.mpr hr]

end Sys2Proof.Machine

namespace Sys2Proof.Statements

open Sys2Proof.Machine Sys2Proof.Safety

/-- The frame that entry leaves on a RAM stack, its last byte at S - 2 (R203). -/
theorem entryFrame {s : State} (hwf : s.mem.wf = true) (hk : StackIsRam s) (k : TrapKind) (ret : Word)
    (use : Config.Access) :
    (s.interruptEntry k ret).read use (stackAddr s.sp) = hiByte ret
      ∧ (s.interruptEntry k ret).read use (stackAddr (s.sp - 1)) = loByte ret
      ∧ (s.interruptEntry k ret).read use (stackAddr (s.sp - 2)) = packP s.flags k.bit4 := by
  rw [← Byte.sub_one_sub_one]
  exact State.interruptEntry_frame hwf hk k ret use

/-- Bit 4 of the pushed status says which kind of entry it was (R203). -/
theorem bit4_eq (k : TrapKind) : k.bit4 = decide (k = .brk) := by
  cases k <;> rfl

/-- Settles O13: BRK is interrupt entry with the address two past its own (R140). -/
theorem brkEntersTheHandler : Obligations.BrkEntersTheHandler := fun _ => ⟨rfl, rfl, rfl, rfl⟩

/-- Settles O36: entry pushes the return address and the packed flags, and loads the pc from $FFFE/F (R203). -/
theorem entryPushesPcAndStatus : Obligations.EntryPushesPcAndStatus := by
  intro s k ret p hp t
  obtain rfl : p = packP s.flags k.bit4 := eq_packP_of_packs (bit4_eq k ▸ hp)
  rw [← State.interruptEntry_pc s k ret, ← TrapKind.iAfter_eq, ← TrapKind.bAfter_eq, ← Byte.sub_one_sub_one_sub_one,
    ← Byte.sub_one_sub_one]
  rfl

/-- Settles O37: the frame on a RAM stack, and entry's three stores are all it stores (R203). -/
theorem entryFrameOnTheStack : Obligations.EntryFrameOnTheStack := by
  intro s k ret use hwf hk t
  obtain ⟨hhi, hlo, hstatus⟩ := entryFrame hwf hk k ret use
  refine ⟨hhi, hlo, ?_, fun a h0 h1 h2 => ?_⟩
  · rw [hstatus, ← bit4_eq]
    exact packP_bits s.flags k.bit4
  · exact State.read_interruptEntry_other s h0 h1 (Byte.sub_one_sub_one s.sp ▸ h2) k ret use

/-- Settles O38: the handler's state reads the frame as entry left it, so RTI pulls the packed flags and the return
address (R142, R206). -/
theorem rtiUndoesTheEntry : Obligations.RtiUndoesTheEntry := by
  intro s h k ret hwf hk hsp hparams hframe
  obtain ⟨hhi, hlo, hstatus⟩ := entryFrame hwf hk k ret .stack
  rw [← hframe _ (by simp)] at hhi hlo hstatus
  have hsp3 : h.sp = s.sp - 3 := by rw [hsp, State.interruptEntry_sp, Byte.sub_one_sub_one_sub_one]
  have hpull : h.pullByte = packP s.flags k.bit4 := by
    have haddr : h.sp + 1 = s.sp - 2 := by rw [hsp3]; bv_omega
    rw [State.pullByte, haddr, hstatus]
  refine ⟨h.returnFromInterrupt, rfl, ?pc, ?sp, ?flags, rfl, rfl, rfl, rfl⟩
  case pc =>
    have hread : ∀ a, h.afterPull.read .stack a = h.read .stack a := fun a => State.read_congr rfl rfl rfl _ a
    have hsp2 : h.afterPull.sp = s.sp - 2 := by rw [State.afterPull_sp, hsp3]; bv_omega
    exact State.pullWord_eq hsp2 ((hread _).trans hhi) ((hread _).trans hlo)
  case sp =>
    rw [State.returnFromInterrupt_sp, hsp3]
    bv_omega
  case flags =>
    rw [State.returnFromInterrupt_flags, hpull, unpackP_packP, hparams, bit4_eq]
    cases s.params.bModel <;> rfl

/-- Settles O39: the subroutine's state reads the return address as JSR left it, so RTS pulls it, one short of the next
instruction, and adds one (R171, R172). -/
theorem callAndReturnMeet : Obligations.CallAndReturnMeet := by
  intro s target hwf hk
  refine ⟨s.call target, rfl, rfl, fun h hsp hparams hframe => ?_⟩
  obtain ⟨hhi, hlo⟩ := State.call_frame hwf (hk _) (hk _) target .stack
  rw [← hframe _ (by simp)] at hhi hlo
  have hsp2 : h.sp = s.sp - 2 := by rw [hsp, State.call_sp, Byte.sub_one_sub_one]
  refine ⟨h.returnFromCall, rfl, ?pc, ?sp, rfl, rfl, rfl, rfl, rfl⟩
  case pc =>
    rw [State.returnFromCall_pc, State.pullWord_eq hsp2 hhi hlo, BitVec.add_assoc]
    rfl
  case sp =>
    rw [State.returnFromCall_sp, hsp2]
    bv_omega

/-- Settles O40: PLP pulls the byte that PHP packed, and with it the flags; PLA pulls the A that PHA pushed (R190 to
R193). -/
theorem pushThenPullRestores : Obligations.PushThenPullRestores := by
  intro s hwf hk
  have hsp : s.sp - 1 + 1 = s.sp := by bv_omega
  have hpc : s.pc + BitVec.ofNat 16 1 + BitVec.ofNat 16 1 = s.pc + 2 := by bv_omega
  refine ⟨⟨_, _, rfl, rfl, ?flags, hsp, hpc⟩, ⟨_, _, rfl, rfl, ?a, hsp, hpc⟩⟩
  case flags =>
    rw [State.advance_flags, State.pullFlags_flags, State.pullByte_push_advance hwf hk]
    exact unpackP_php s.params.bModel s.flags
  case a => exact State.pullByte_push_advance hwf hk s.a 1

/-- Settles O41: the boundary's input is the first to come; the mask is I, or right after CLI, SEI and PLP the I that the
environment chooses (R202). -/
theorem requestTakenByTheMask : Obligations.RequestTakenByTheMask := by
  intro s
  refine ⟨fun h => ?noInputs, fun next later h => State.input_cons h,
    fun hr hi => s.boundary_eq_execute.mpr ⟨hr, .inl hi⟩,
    fun hr hi => ⟨fun hprev => ?usual, fun old hprev => ⟨fun hold => ?oldI, fun hnew => ?newI⟩⟩⟩
  case noInputs =>
    rw [State.input_nil h]
    exact ⟨rfl, rfl⟩
  case usual =>
    have hmask : s.mask = s.flags.i := by simp only [State.mask, hprev]
    exact hmask ▸ step_of_request hr hi
  case oldI =>
    have hmask : s.mask = old := by simp only [State.mask, hprev, hold, if_true]
    exact hmask ▸ step_of_request hr hi
  case newI =>
    have hmask : s.mask = s.flags.i := by simp [State.mask, hprev, hnew]
    exact hmask ▸ step_of_request hr hi

/-- Settles O42: the reset sequence sets I and reads the pc at $FFFC/D (R230). -/
theorem resetAtABoundary : Obligations.ResetAtABoundary := fun _ hr =>
  ⟨_, step_of_reset hr, rfl, rfl, rfl, rfl⟩

/-- Settles O43: `State.reset` field by field (log 1 to log 4); its pc is what its memory holds at $FFFC/D (R230). -/
theorem powerUpValues : Obligations.PowerUpValues :=
  ⟨rfl, rfl, rfl, rfl, rfl, rfl, rfl, rfl, rfl, rfl⟩

/-- Settles O60: the step executes a JMP to its own address, which writes the pc alone (R170, R236). -/
theorem endOfRunIsALoop : Obligations.EndOfRunIsALoop := by
  rintro s ⟨hb, hfetch⟩
  exact ⟨_, (step_of_fetch hb hfetch).trans (exec_jmpAbs s.pc s.beginStep), rfl, rfl, rfl, rfl, rfl, rfl, rfl⟩

end Sys2Proof.Statements

/-! PROOFS. The statements of spec/45_flags.md and spec/46_incdec.md: each meaning is its family's effect and the advance of
the pc. -/

namespace Sys2Proof.Statements

open Sys2Proof.Machine

/-- Settles O16: each writes its one flag and moves on one byte (R150 to R156). -/
theorem flagInstructionsWriteOneFlag : Obligations.FlagInstructionsWriteOneFlag := by
  intro s
  refine ⟨?clc, ?cld, ?cli, ?clv, ?sec, ?sed, ?sei⟩
  all_goals exact .of_advance rfl rfl rfl rfl rfl

/-- Settles O17: in each mode the meaning of INC is `incMem` and that of DEC `decMem` of the effective address (R160,
R163). -/
theorem memoryCountsByOne : Obligations.MemoryCountsByOne := by
  intro s
  refine ⟨fun b w => ⟨?_, ?_, ?_, ?_⟩, fun b w => ⟨?_, ?_, ?_, ?_⟩⟩
  all_goals exact .of_advance rfl rfl rfl rfl rfl

/-- Settles O18: INX and DEX are `putX`, INY and DEY `putY`, of the register plus or minus one (R161 to R165). -/
theorem indexRegistersCountByOne : Obligations.IndexRegistersCountByOne := by
  intro s
  refine ⟨?inx, ?iny, ?dex, ?dey⟩
  case inx | dex => exact .of_putX rfl rfl rfl rfl
  case iny | dey => exact .of_putY rfl rfl rfl rfl

end Sys2Proof.Statements
